-- ==== Sys2Proof/Word.lean ====
section
/-! DEFINITION. The word types of the block: every quantity is a byte, a level or a natural number
(00_scope.md R10). -/

namespace Sys2Proof

/-- A byte: an unsigned 8-bit value, bit 0 the least significant (00_scope.md R10). -/
abbrev Byte := BitVec 8

/-- A level, the content of a setpoint register: 8 bits, so MIN_LEVEL = 0 to MAX_LEVEL = 255
(00_scope.md R8; 10_state.md R26, R27). -/
abbrev Level := BitVec 8

end Sys2Proof
end

