-- ==== Sys2Proof/Config.lean ====
section
/-! DEFINITION. The constants the spec fixes (00_scope.md R8) and the static parameters of one block
(00_scope.md R9). The parameters are plain data; no operation writes them (10_state.md R35), and a
statement about every state holds for every value of them. -/

namespace Sys2Proof

/-- START, the start marker of both dialects (00_scope.md R8). -/
def START : Byte := 0x02
/-- END, the end marker of both dialects (R8). -/
def END : Byte := 0x03
/-- SYNC, the optional byte in front of a checksummed frame (R8). -/
def SYNC : Byte := 0xFF
/-- ACK, the alternative reply terminator (R8). -/
def ACK : Byte := 0x06
/-- DELIM, the comma between the fields of reply data (R8). -/
def DELIM : Byte := 0x2C
/-- The character E of a rejected reply (R8). -/
def ERRMARK : Byte := 0x45
/-- MIN_LEVEL (R8). -/
abbrev MIN_LEVEL : Nat := 0
/-- MAX_LEVEL (R8). -/
abbrev MAX_LEVEL : Nat := 255

/-- DIALECT, the dialect a block decodes for its whole life (00_scope.md R9; decision D1). -/
inductive Dialect where
  | simple
  | checksummed
  deriving DecidableEq, Repr

/-- REPLY_TERM, the last byte of every reply: END or ACK (00_scope.md R9, 30_encoding.md R81). -/
inductive ReplyTerm where
  | fin
  | ack
  deriving DecidableEq, Repr

/-- The byte of a reply terminator (30_encoding.md R81). -/
def ReplyTerm.byte : ReplyTerm → Byte
  | .fin => END
  | .ack => ACK

/-- The static parameters (00_scope.md R9). -/
structure Config where
  /-- DIALECT -/
  dialect : Dialect
  /-- REPLY_TERM -/
  replyTerm : ReplyTerm
  /-- MAX_FRAME_LEN, the bound on the buffered bytes (decision D3) -/
  maxFrameLen : Nat
  /-- BURST_MAX, the most bytes one tick reads (decision D29) -/
  burstMax : Nat
  /-- TICK_PERIOD, a duration that no rule reads (decision D33) -/
  tickPeriod : Nat
  /-- TEMP_SENTINEL, the third field of the query reply (decision D24) -/
  tempSentinel : List Byte
  deriving DecidableEq, Repr

/-- Is the byte an ASCII digit (00_scope.md R8)? -/
def isDigit (b : Byte) : Bool := 0x30 ≤ b.toNat && b.toNat ≤ 0x39

/-- The least MAX_FRAME_LEN of a dialect: 4 (simple) or 2 (checksummed) (00_scope.md R9). -/
def Dialect.minFrameLen : Dialect → Nat
  | .simple => 4
  | .checksummed => 2

/-- TEMP_SENTINEL's constraint: not empty, none of START, END, ACK, DELIM in it, not all digits
(00_scope.md R9). -/
def sentinelOk (bs : List Byte) : Bool :=
  bs != [] && bs.all (fun b => b != START && b != END && b != ACK && b != DELIM) && !bs.all isDigit

/-- The constraints of 00_scope.md R9 on the parameters. A block whose parameters break them is
ill-formed and is refused (93_implementation_defined.md U9). -/
def Config.ok (c : Config) : Bool :=
  decide (c.dialect.minFrameLen ≤ c.maxFrameLen) && decide (1 ≤ c.burstMax) &&
    decide (1 ≤ c.tickPeriod) && sentinelOk c.tempSentinel

/-- DESIGN CHOICE (log entry 1): the parameters State.reset carries, those of 95_test_vectors.md in
the simple dialect. Unsafe for a claim that rests on them; no statement does. -/
def Config.reference : Config :=
  { dialect := .simple, replyTerm := .fin, maxFrameLen := 8, burstMax := 64, tickPeriod := 1,
    tempSentinel := [0x3F] }

end Sys2Proof
end

