-- ==== Sys2Proof/Syntax.lean ====
section
/-! DEFINITION. The instructions: one constructor per row of spec/opcode_table.json (30_encoding.md
R86). A byte-class row is one case of FEED_S or FEED_C; an EVENT row is an operation of 00_scope.md R4. -/

namespace Sys2Proof

/-- The two actuators (00_scope.md R8). -/
inductive Actuator where
  | fan
  | pump
  deriving DecidableEq, Repr

/-- WHITELIST: the selectors F, P and Q of the simple dialect (00_scope.md R8, 30_encoding.md R73). -/
inductive Selector where
  | f
  | p
  | q
  deriving DecidableEq, Repr

/-- The decoder's control state (10_state.md R21). -/
inductive Mode where
  | seekingStart
  | accumulating
  | seekingChecksum
  deriving DecidableEq, Repr

/-- The content of an accepted checksummed frame: what the result Frame carries and what the Pump
Relay State keeps (10_state.md R30, R33). -/
structure Frame where
  address : Byte
  sequence : Byte
  payload : List Byte
  deriving DecidableEq, Repr

/-- The rows of spec/opcode_table.json. -/
inductive Instr where
  /-- FEED_S.START (40_decoder_simple.md R102) -/
  | feedSStart
  /-- FEED_S.DISCARD (R101) -/
  | feedSDiscard (b : Byte)
  /-- FEED_S.END (R103) -/
  | feedSEnd
  /-- FEED_S.OVERFLOW (R105) -/
  | feedSOverflow (b : Byte)
  /-- FEED_S.APPEND (R104) -/
  | feedSAppend (b : Byte)
  /-- FEED_C.START (41_decoder_checksummed.md R122) -/
  | feedCStart
  /-- FEED_C.DISCARD (R121) -/
  | feedCDiscard (b : Byte)
  /-- FEED_C.END (R124) -/
  | feedCEnd
  /-- FEED_C.OVERFLOW (R125) -/
  | feedCOverflow (b : Byte)
  /-- FEED_C.APPEND (R123) -/
  | feedCAppend (b : Byte)
  /-- FEED_C.CKS_MISMATCH (R126) -/
  | feedCCksMismatch (b : Byte)
  /-- FEED_C.CKS_SHORT (R127) -/
  | feedCCksShort (b : Byte)
  /-- FEED_C.CKS_DUPLICATE (R128) -/
  | feedCCksDuplicate (b : Byte)
  /-- FEED_C.CKS_ACCEPT (R129) -/
  | feedCCksAccept (b : Byte)
  /-- F, set the fan target (42_dispatcher.md R154 to R156) -/
  | f (args : List Byte)
  /-- P, set the pump target (R154 to R156) -/
  | p (args : List Byte)
  /-- Q, query (R160) -/
  | q (args : List Byte)
  /-- UNKNOWN: report a terminated frame that is no command (40_decoder_simple.md R107, 44_tick.md R196) -/
  | unknown (bytes : List Byte)
  /-- SEQ.REPEAT: judge the verified frame by a sequence byte whose repeat flag is set (R128, R129) -/
  | seqRepeat (upper : BitVec 4) (number : BitVec 3)
  /-- SEQ.NEW: judge the verified frame by a sequence byte whose repeat flag is clear (R129) -/
  | seqNew (upper : BitVec 4) (number : BitVec 3)
  /-- TERM.END: the last byte of a reply is END (30_encoding.md R81) -/
  | termEnd
  /-- TERM.ACK: the last byte of a reply is ACK (R81) -/
  | termAck
  /-- REPLY.ACCEPTED (42_dispatcher.md R158) -/
  | replyAccepted (a : Actuator) (v : Level)
  /-- REPLY.REJECTED (R157) -/
  | replyRejected (a : Actuator) (args : List Byte)
  /-- REPLY.QUERY (R160) -/
  | replyQuery
  /-- SFRAME: a whole simple frame, body = selector :: args, or empty (30_encoding.md R72, R107) -/
  | sframe (body : List Byte)
  /-- CFRAME: a whole checksummed frame behind sync SYNC bytes (30_encoding.md R75, R78) -/
  | cframe (sync : Nat) (address sequence : Byte) (payload : List Byte)
  /-- FEED_S (40_decoder_simple.md R100) -/
  | feedS (b : Byte)
  /-- FEED_C (41_decoder_checksummed.md R120) -/
  | feedC (b : Byte)
  /-- ENCODE_C (R132) -/
  | encodeC (address sequence : Byte) (payload : List Byte)
  /-- DISPATCH (42_dispatcher.md R150) -/
  | dispatch (sel : Selector) (args : List Byte)
  /-- ADVANCE (43_ramp.md R180) -/
  | advance (a : Actuator)
  /-- TICK (44_tick.md R190) -/
  | tick
  /-- RESET (70_reset_and_hazards.md R240) -/
  | reset
  deriving DecidableEq, Repr

end Sys2Proof
end

