-- ==== Sys2Proof/Machine/Operands.lean ====
section
/-! DEFINITION. How operands are assembled from received bytes and rendered into sent bytes
(30_encoding.md R87; 00_scope.md R13). Nothing here reads the state. -/

namespace Sys2Proof

/-- The ASCII byte of a selector (00_scope.md R8). -/
def Selector.byte : Selector → Byte
  | .f => 0x46
  | .p => 0x50
  | .q => 0x51

/-- The whitelist test: exact bytes only (30_encoding.md R73, decision D7). -/
def selectorOf (b : Byte) : Option Selector :=
  if b = 0x46 then some .f else if b = 0x50 then some .p else if b = 0x51 then some .q else none

/-- The set command of an actuator (42_dispatcher.md R151, read backwards). -/
def Actuator.selector : Actuator → Selector
  | .fan => .f
  | .pump => .p

/-- The actuator a selector sets: actuator('F') = fan, actuator('P') = pump (42_dispatcher.md R151). -/
def Selector.actuator : Selector → Option Actuator
  | .f => some .fan
  | .p => some .pump
  | .q => none

/-- The number a digit byte stands for. -/
def digitValue (b : Byte) : Nat := b.toNat - 0x30

/-- The value of a list of digits, most significant first (00_scope.md R13). -/
def decValue (bs : List Byte) : Nat := bs.foldl (fun n b => 10 * n + digitValue b) 0

/-- parse_dec: one or more ASCII digits and nothing else, unbounded (00_scope.md R13, 42_dispatcher.md R153). -/
def parseDec (bs : List Byte) : Option Nat :=
  if bs != [] && bs.all isDigit then some (decValue bs) else none

/-- The ASCII byte of a digit 0 to 9. -/
def digitByte (n : Nat) : Byte := BitVec.ofNat 8 (0x30 + n)

/-- dec: the shortest decimal spelling of a level, one to three digits (00_scope.md R13). -/
def dec (v : Level) : List Byte :=
  let n := v.toNat
  if n < 10 then [digitByte n]
  else if n < 100 then [digitByte (n / 10), digitByte (n % 10)]
  else [digitByte (n / 100), digitByte (n / 10 % 10), digitByte (n % 10)]

/-- The sequence byte xxxxRsss (30_encoding.md R76). -/
def seqByte (upper : BitVec 4) (flag : Bool) (number : BitVec 3) : Byte :=
  BitVec.ofNat 8 (16 * upper.toNat + 8 * flag.toNat + number.toNat)

/-- Bits 7 to 4 of the sequence byte (30_encoding.md R76). -/
def seqUpper (q : Byte) : BitVec 4 := q.extractLsb' 4 4

/-- Bit 3 of the sequence byte, the repeat flag (30_encoding.md R76). -/
def repeatFlag (q : Byte) : Bool := q.getLsbD 3

/-- Bits 2 to 0 of the sequence byte, the sequence number (30_encoding.md R76). -/
def seqNumber (q : Byte) : BitVec 3 := q.extractLsb' 0 3

/-- The exclusive-or of all bytes of a list (30_encoding.md R77). -/
def xorAll (bs : List Byte) : Byte := bs.foldl (fun x b => x ^^^ b) 0

/-- ENCODE_C: START, address, sequence, payload, END and the checksum over all of them
(41_decoder_checksummed.md R132). -/
def encodeFrame (address sequence : Byte) (payload : List Byte) : List Byte :=
  let body := [START, address, sequence] ++ payload ++ [END]
  body ++ [xorAll body]

/-- The reply to an accepted set command (42_dispatcher.md R158). -/
def acceptedReply (t : ReplyTerm) (a : Actuator) (v : Level) : List Byte :=
  [START, a.selector.byte] ++ dec v ++ [t.byte]

/-- The reply to a rejected set command, args as received (42_dispatcher.md R157). -/
def rejectedReply (t : ReplyTerm) (a : Actuator) (args : List Byte) : List Byte :=
  [START, a.selector.byte, ERRMARK] ++ args ++ [t.byte]

/-- The data of the query reply: fan, pump, temperature sentinel (42_dispatcher.md R160). -/
def queryData (sentinel : List Byte) (fan pump : Level) : List Byte :=
  dec fan ++ [DELIM] ++ dec pump ++ [DELIM] ++ sentinel

/-- The query reply (42_dispatcher.md R160). -/
def queryReply (c : Config) (fan pump : Level) : List Byte :=
  [START, Selector.q.byte] ++ queryData c.tempSentinel fan pump ++ [c.replyTerm.byte]

/-- R153: arguments that no set command accepts, unparseable or above MAX_LEVEL (42_dispatcher.md
R154, R155, R165). -/
def rejectable (args : List Byte) : Bool :=
  match parseDec args with
  | none => true
  | some v => decide (MAX_LEVEL < v)

end Sys2Proof
end

