-- ==== Sys2Proof/WellFormed.lean ====
section
/-! DEFINITION. Which instructions are well-formed: what their encoding can carry (30_encoding.md R72,
R75, R83, R84; 42_dispatcher.md R157). -/

namespace Sys2Proof

/-- No byte of the list is END: a field cannot carry 0x03 (30_encoding.md R84). -/
def noEnd (bs : List Byte) : Bool := bs.all (fun b => b != END)

/-- UNKNOWN's bytes are no command: empty, or the first byte outside the whitelist (40_decoder_simple.md R107). -/
def isUnknown (bytes : List Byte) : Bool :=
  match bytes with
  | [] => true
  | b :: _ => (selectorOf b).isNone

/-- The checks on an instruction's fields. -/
def Instr.wf : Instr → Bool
  | .feedSStart => true
  | .feedSDiscard b => b != START
  | .feedSEnd => true
  | .feedSOverflow b => b != END
  | .feedSAppend b => b != END
  | .feedCStart => true
  | .feedCDiscard b => b != START
  | .feedCEnd => true
  | .feedCOverflow b => b != END
  | .feedCAppend b => b != END
  | .feedCCksMismatch _ => true
  | .feedCCksShort _ => true
  | .feedCCksDuplicate _ => true
  | .feedCCksAccept _ => true
  | .f args => noEnd args
  | .p args => noEnd args
  | .q args => noEnd args
  | .unknown bytes => noEnd bytes && isUnknown bytes
  | .seqRepeat _ _ => true
  | .seqNew upper number => seqByte upper false number != END
  | .termEnd => true
  | .termAck => true
  | .replyAccepted _ _ => true
  | .replyRejected _ args => noEnd args && rejectable args
  | .replyQuery => true
  | .sframe body => noEnd body
  | .cframe _ address sequence payload => noEnd (address :: sequence :: payload)
  | .feedS _ => true
  | .feedC _ => true
  | .encodeC _ _ _ => true
  | .dispatch _ args => noEnd args
  | .advance _ => true
  | .tick => true
  | .reset => true

end Sys2Proof
end

