-- ==== Sys2Proof/Decode.lean ====
section
/-! DEFINITION. The decoder and, after it, the encoder. A word is a list of bytes in wire order
(20_memory.md R54) read in one of the formats of spec/opcode_table.json (its "format" column). A
received byte's row depends on the dialect, the mode and further state (30_encoding.md R86), so the
decoder reads a context, the part of the state that the table's "when" column names. -/

namespace Sys2Proof

/-- The operations of 00_scope.md R4: the EVENT rows, selected by which event occurs and not by bits
(30_encoding.md R86). -/
inductive Event where
  | feedS
  | feedC
  | encodeC
  | dispatch
  | advance (a : Actuator)
  | tick
  | reset
  deriving DecidableEq, Repr

/-- The formats of spec/opcode_table.json (30_encoding.md R70, R86). -/
inductive Format where
  | rxByte
  | selector
  | seqByte
  | replyTerm
  | reply
  | frame
  | event (e : Event)
  deriving DecidableEq, Repr

/-- A word: the format it is read in and its bytes, first byte first. -/
structure Call where
  format : Format
  bytes : List Byte
  deriving DecidableEq, Repr

/-- What the table's "when" column and the reply layouts read. -/
structure Ctx where
  cfg : Config
  mode : Mode
  buffer : List Byte
  cks : Byte
  lastSequence : Option Byte
  fan : Level
  pump : Level
  deriving DecidableEq, Repr

/-- Why bytes are no word of their format. Safe: the machine refuses them. -/
inductive DecodeError where
  /-- RXBYTE in the mode SeekingChecksum of the simple dialect, which has no meaning (40_decoder_simple.md R110) -/
  | noRow
  /-- a word of the wrong number of bytes -/
  | wrongLength
  /-- byte 0 of a frame or reply is not START (30_encoding.md R70) -/
  | noStart
  /-- a simple frame's last byte is not END (R72) -/
  | noEndMarker
  /-- END where a field stands, which no format can carry (R84) -/
  | endInField
  /-- a checksummed frame without its fields, its END or its checksum (R75, R77) -/
  | badFrame
  /-- a selector outside the whitelist where a command is called for (42_dispatcher.md R164) -/
  | unknownSelector
  /-- a reply's last byte is not REPLY_TERM (R79, R81) -/
  | badTerminator
  /-- reply data of none of the three forms (R80) -/
  | badReply
  deriving DecidableEq, Repr

/-- duplicate(q, ls): repeat flag set and the number equal to the last one (41_decoder_checksummed.md R120). -/
def duplicate (q : Byte) (last : Option Byte) : Bool :=
  match last with
  | none => false
  | some s => repeatFlag q && seqNumber s == seqNumber q

/-- The simple dialect's decoder in the given mode. -/
def Ctx.inSimple (c : Ctx) (m : Mode) : Bool := c.cfg.dialect == .simple && c.mode == m

/-- The checksummed dialect's decoder in the given mode. -/
def Ctx.inChecksummed (c : Ctx) (m : Mode) : Bool := c.cfg.dialect == .checksummed && c.mode == m

/-- The frame buffer holds MAX_FRAME_LEN bytes (log entry 9: or more, which no run reaches). -/
def Ctx.full (c : Ctx) : Bool := decide (c.cfg.maxFrameLen ≤ c.buffer.length)

/-- The sequence byte of the buffered frame repeats the last one (R128). -/
def Ctx.isDuplicate (c : Ctx) : Bool :=
  match c.buffer with
  | _ :: q :: _ => duplicate q c.lastSequence
  | _ => false

/-- The RXBYTE rows with their "when" column, in the table's order, which within one dialect and mode
is the order of priority (30_encoding.md R86; 40_decoder_simple.md R100; 41_decoder_checksummed.md R120). -/
def rxRows (c : Ctx) (b : Byte) : List (Bool × Instr) :=
  [ (c.inSimple .seekingStart && b == START, .feedSStart),
    (c.inSimple .seekingStart && b != START, .feedSDiscard b),
    (c.inSimple .accumulating && b == END, .feedSEnd),
    (c.inSimple .accumulating && b != END && c.full, .feedSOverflow b),
    (c.inSimple .accumulating && b != END && !c.full, .feedSAppend b),
    (c.inChecksummed .seekingStart && b == START, .feedCStart),
    (c.inChecksummed .seekingStart && b != START, .feedCDiscard b),
    (c.inChecksummed .accumulating && b == END, .feedCEnd),
    (c.inChecksummed .accumulating && b != END && c.full, .feedCOverflow b),
    (c.inChecksummed .accumulating && b != END && !c.full, .feedCAppend b),
    (c.inChecksummed .seekingChecksum && b != c.cks, .feedCCksMismatch b),
    (c.inChecksummed .seekingChecksum && b == c.cks && decide (c.buffer.length < 2), .feedCCksShort b),
    (c.inChecksummed .seekingChecksum && b == c.cks && decide (2 ≤ c.buffer.length) && c.isDuplicate,
      .feedCCksDuplicate b),
    (c.inChecksummed .seekingChecksum && b == c.cks && decide (2 ≤ c.buffer.length) && !c.isDuplicate,
      .feedCCksAccept b) ]

/-- The row of a received byte: the first whose "when" holds (30_encoding.md R86). -/
def decodeRx (c : Ctx) (b : Byte) : Except DecodeError Instr :=
  match (rxRows c b).find? (fun r => r.1) with
  | some r => .ok r.2
  | none => .error .noRow

/-- A terminated simple frame's bytes, classified by the first (30_encoding.md R73, R86). -/
def decodeSelector (bs : List Byte) : Except DecodeError Instr :=
  if !noEnd bs then .error .endInField
  else match bs with
    | [] => .ok (.unknown [])
    | b :: args =>
      match selectorOf b with
      | some .f => .ok (.f args)
      | some .p => .ok (.p args)
      | some .q => .ok (.q args)
      | none => .ok (.unknown (b :: args))

/-- A sequence byte, classified by bit 3 (30_encoding.md R76). -/
def decodeSeq (q : Byte) : Except DecodeError Instr :=
  if q = END then .error .endInField
  else if repeatFlag q then .ok (.seqRepeat (seqUpper q) (seqNumber q))
  else .ok (.seqNew (seqUpper q) (seqNumber q))

/-- A reply terminator (30_encoding.md R81). -/
def decodeTerm (b : Byte) : Except DecodeError Instr :=
  if b = END then .ok .termEnd else if b = ACK then .ok .termAck else .error .badTerminator

/-- The data of a reply to a set command: 'E' and the arguments, or an accepted level in its shortest
spelling (30_encoding.md R80). -/
def decodeSetReply (a : Actuator) (data : List Byte) : Except DecodeError Instr :=
  match data with
  | [] => .error .badReply
  | d :: args =>
    if d = ERRMARK then
      if !noEnd args then .error .endInField
      else if rejectable args then .ok (.replyRejected a args)
      else .error .badReply
    else
      match parseDec (d :: args) with
      | some v =>
        if v ≤ MAX_LEVEL ∧ dec (BitVec.ofNat 8 v) = d :: args then
          .ok (.replyAccepted a (BitVec.ofNat 8 v))
        else .error .badReply
      | none => .error .badReply

/-- A whole reply: START, selector, data, REPLY_TERM (30_encoding.md R79, R80). -/
def decodeReply (c : Ctx) (bs : List Byte) : Except DecodeError Instr :=
  match bs with
  | start :: sel :: rest =>
    if start ≠ START then .error .noStart
    else if rest.getLast? ≠ some c.cfg.replyTerm.byte then .error .badTerminator
    else
      match selectorOf sel with
      | some .q =>
        if rest.dropLast = queryData c.cfg.tempSentinel c.fan c.pump then .ok .replyQuery
        else .error .badReply
      | some .f => decodeSetReply .fan rest.dropLast
      | some .p => decodeSetReply .pump rest.dropLast
      | none => .error .unknownSelector
  | _ => .error .wrongLength

/-- A whole simple frame: START, the buffered bytes, END (30_encoding.md R72). -/
def decodeSFrame (bs : List Byte) : Except DecodeError Instr :=
  match bs with
  | [] => .error .wrongLength
  | start :: rest =>
    if start ≠ START then .error .noStart
    else if rest.getLast? ≠ some END then .error .noEndMarker
    else if !noEnd rest.dropLast then .error .endInField
    else .ok (.sframe rest.dropLast)

/-- A whole checksummed frame from START on, behind sync SYNC bytes (30_encoding.md R75, R77, R78). -/
def decodeCFrame (sync : Nat) (bs : List Byte) : Except DecodeError Instr :=
  match bs with
  | start :: address :: sequence :: rest =>
    let payload := rest.dropLast.dropLast
    if start ≠ START then .error .noStart
    else if !noEnd (address :: sequence :: payload) then .error .endInField
    else if encodeFrame address sequence payload = bs then .ok (.cframe sync address sequence payload)
    else .error .badFrame
  | _ => .error .badFrame

/-- A whole frame, of the dialect the parameter names: no byte on the wire tells them apart
(30_encoding.md R82). -/
def decodeFrame (c : Ctx) (bs : List Byte) : Except DecodeError Instr :=
  match c.cfg.dialect with
  | .simple => decodeSFrame bs
  | .checksummed =>
    decodeCFrame (bs.takeWhile (fun b => b == SYNC)).length (bs.dropWhile (fun b => b == SYNC))

/-- DISPATCH's operand: a command, its selector first (42_dispatcher.md R150, R164). -/
def decodeCommand (bs : List Byte) : Except DecodeError Instr :=
  match bs with
  | [] => .error .wrongLength
  | b :: args =>
    match selectorOf b with
    | none => .error .unknownSelector
    | some sel => if noEnd args then .ok (.dispatch sel args) else .error .endInField

/-- An operation and its operand bytes (log entry 11: the layout of the operands is the model's). -/
def decodeEvent (e : Event) (bs : List Byte) : Except DecodeError Instr :=
  match e, bs with
  | .feedS, [b] => .ok (.feedS b)
  | .feedC, [b] => .ok (.feedC b)
  | .encodeC, address :: sequence :: payload => .ok (.encodeC address sequence payload)
  | .dispatch, bs => decodeCommand bs
  | .advance a, [] => .ok (.advance a)
  | .tick, [] => .ok .tick
  | .reset, [] => .ok .reset
  | _, _ => .error .wrongLength

/-- The decoder, total on any bytes in any format. -/
def decode (c : Ctx) (w : Call) : Except DecodeError Instr :=
  match w.format, w.bytes with
  | .rxByte, [b] => decodeRx c b
  | .rxByte, _ => .error .wrongLength
  | .selector, bs => decodeSelector bs
  | .seqByte, [q] => decodeSeq q
  | .seqByte, _ => .error .wrongLength
  | .replyTerm, [b] => decodeTerm b
  | .replyTerm, _ => .error .wrongLength
  | .reply, bs => decodeReply c bs
  | .frame, bs => decodeFrame c bs
  | .event e, bs => decodeEvent e bs

/-- The encoder: the word of an instruction, from the same layouts (30_encoding.md R70 to R81;
41_decoder_checksummed.md R132). The replies' bytes depend on the parameters and, for the query, on
the current levels. The words of the EVENT rows are the model's (log entry 11: DESIGN CHOICE). -/
def encode (c : Ctx) : Instr → Call
  | .feedSStart => ⟨.rxByte, [START]⟩
  | .feedSDiscard b => ⟨.rxByte, [b]⟩
  | .feedSEnd => ⟨.rxByte, [END]⟩
  | .feedSOverflow b => ⟨.rxByte, [b]⟩
  | .feedSAppend b => ⟨.rxByte, [b]⟩
  | .feedCStart => ⟨.rxByte, [START]⟩
  | .feedCDiscard b => ⟨.rxByte, [b]⟩
  | .feedCEnd => ⟨.rxByte, [END]⟩
  | .feedCOverflow b => ⟨.rxByte, [b]⟩
  | .feedCAppend b => ⟨.rxByte, [b]⟩
  | .feedCCksMismatch b => ⟨.rxByte, [b]⟩
  | .feedCCksShort b => ⟨.rxByte, [b]⟩
  | .feedCCksDuplicate b => ⟨.rxByte, [b]⟩
  | .feedCCksAccept b => ⟨.rxByte, [b]⟩
  | .f args => ⟨.selector, Selector.f.byte :: args⟩
  | .p args => ⟨.selector, Selector.p.byte :: args⟩
  | .q args => ⟨.selector, Selector.q.byte :: args⟩
  | .unknown bytes => ⟨.selector, bytes⟩
  | .seqRepeat upper number => ⟨.seqByte, [Sys2Proof.seqByte upper true number]⟩
  | .seqNew upper number => ⟨.seqByte, [Sys2Proof.seqByte upper false number]⟩
  | .termEnd => ⟨.replyTerm, [END]⟩
  | .termAck => ⟨.replyTerm, [ACK]⟩
  | .replyAccepted a v => ⟨.reply, acceptedReply c.cfg.replyTerm a v⟩
  | .replyRejected a args => ⟨.reply, rejectedReply c.cfg.replyTerm a args⟩
  | .replyQuery => ⟨.reply, queryReply c.cfg c.fan c.pump⟩
  | .sframe body => ⟨.frame, [START] ++ body ++ [END]⟩
  | .cframe sync address sequence payload =>
    ⟨.frame, List.replicate sync SYNC ++ encodeFrame address sequence payload⟩
  | .feedS b => ⟨.event .feedS, [b]⟩
  | .feedC b => ⟨.event .feedC, [b]⟩
  | .encodeC address sequence payload => ⟨.event .encodeC, address :: sequence :: payload⟩
  | .dispatch sel args => ⟨.event .dispatch, sel.byte :: args⟩
  | .advance a => ⟨.event (.advance a), []⟩
  | .tick => ⟨.event .tick, []⟩
  | .reset => ⟨.event .reset, []⟩

/-- The table's "when" column for an instruction in a context: an RXBYTE row is the one the byte
selects, a frame is of the dialect decoded; the other rows of these formats carry no condition on
how their word is read. -/
def Instr.selected (c : Ctx) : Instr → Bool
  | .feedSStart => c.inSimple .seekingStart
  | .feedSDiscard b => c.inSimple .seekingStart && b != START
  | .feedSEnd => c.inSimple .accumulating
  | .feedSOverflow b => c.inSimple .accumulating && b != END && c.full
  | .feedSAppend b => c.inSimple .accumulating && b != END && !c.full
  | .feedCStart => c.inChecksummed .seekingStart
  | .feedCDiscard b => c.inChecksummed .seekingStart && b != START
  | .feedCEnd => c.inChecksummed .accumulating
  | .feedCOverflow b => c.inChecksummed .accumulating && b != END && c.full
  | .feedCAppend b => c.inChecksummed .accumulating && b != END && !c.full
  | .feedCCksMismatch b => c.inChecksummed .seekingChecksum && b != c.cks
  | .feedCCksShort b =>
    c.inChecksummed .seekingChecksum && b == c.cks && decide (c.buffer.length < 2)
  | .feedCCksDuplicate b =>
    c.inChecksummed .seekingChecksum && b == c.cks && decide (2 ≤ c.buffer.length) && c.isDuplicate
  | .feedCCksAccept b =>
    c.inChecksummed .seekingChecksum && b == c.cks && decide (2 ≤ c.buffer.length) && !c.isDuplicate
  | .f _ => true
  | .p _ => true
  | .q _ => true
  | .unknown _ => true
  | .seqRepeat _ _ => true
  | .seqNew _ _ => true
  | .termEnd => true
  | .termAck => true
  | .replyAccepted _ _ => true
  | .replyRejected _ _ => true
  | .replyQuery => true
  | .sframe _ => c.cfg.dialect == .simple
  | .cframe _ _ _ _ => c.cfg.dialect == .checksummed
  | .feedS _ => true
  | .feedC _ => true
  | .encodeC _ _ _ => true
  | .dispatch _ _ => true
  | .advance _ => true
  | .tick => true
  | .reset => true

/-- The opcode table's mask and match of an instruction's row, applied to byte 0 of its word (behind
any SYNC); an EVENT row has no bits, mask 0 and match 0 (30_encoding.md R86). -/
def Instr.maskMatch : Instr → Byte × Byte
  | .feedSStart => (0xFF, 0x02)
  | .feedSDiscard _ => (0, 0)
  | .feedSEnd => (0xFF, 0x03)
  | .feedSOverflow _ => (0, 0)
  | .feedSAppend _ => (0, 0)
  | .feedCStart => (0xFF, 0x02)
  | .feedCDiscard _ => (0, 0)
  | .feedCEnd => (0xFF, 0x03)
  | .feedCOverflow _ => (0, 0)
  | .feedCAppend _ => (0, 0)
  | .feedCCksMismatch _ => (0, 0)
  | .feedCCksShort _ => (0, 0)
  | .feedCCksDuplicate _ => (0, 0)
  | .feedCCksAccept _ => (0, 0)
  | .f _ => (0xFF, 0x46)
  | .p _ => (0xFF, 0x50)
  | .q _ => (0xFF, 0x51)
  | .unknown _ => (0, 0)
  | .seqRepeat _ _ => (0x08, 0x08)
  | .seqNew _ _ => (0x08, 0x00)
  | .termEnd => (0xFF, 0x03)
  | .termAck => (0xFF, 0x06)
  | .replyAccepted _ _ => (0xFF, 0x02)
  | .replyRejected _ _ => (0xFF, 0x02)
  | .replyQuery => (0xFF, 0x02)
  | .sframe _ => (0xFF, 0x02)
  | .cframe _ _ _ _ => (0xFF, 0x02)
  | .feedS _ => (0, 0)
  | .feedC _ => (0, 0)
  | .encodeC _ _ _ => (0, 0)
  | .dispatch _ _ => (0, 0)
  | .advance _ => (0, 0)
  | .tick => (0, 0)
  | .reset => (0, 0)

/-! Reading the table's words without their format. The bits of a table row do not say which format
they stand in (0x02 is the word of seven rows), so a word given alone is read as a decoder written
from the whole table would: the exact matches first, in the table's order, then the rows of mask 0x08
(30_encoding.md R86, last sentence). Log entry 10. -/

/-- The bytes of a word numbered as the table numbers bits, first byte first. -/
def wordBytes (nbits w : Nat) : List Byte :=
  (List.range (nbits / 8)).map (fun i => BitVec.ofNat 8 (w / 256 ^ i))

/-- The format of the first matching row. -/
def tableFormat (b : Byte) : Format :=
  if b = START ∨ b = END then .rxByte
  else if (selectorOf b).isSome then .selector
  else if b = ACK then .replyTerm
  else .seqByte

/-- The word as a call; a word of no bits is the event that takes no operand and that the control
loop runs by itself, TICK. -/
def tableCall (bs : List Byte) : Call :=
  match bs with
  | [] => ⟨.event .tick, []⟩
  | b :: _ => ⟨tableFormat b, bs⟩

/-- What the row's "when" column asks of the context: for START the simple decoder outside a frame,
for END inside one, for ACK the parameter REPLY_TERM = ACK, for a sequence byte a verified frame
that holds it. -/
def tableCtx (bs : List Byte) (c : Ctx) : Ctx :=
  match bs with
  | [] => c
  | b :: _ =>
    if b = START then
      { c with cfg := { c.cfg with dialect := .simple }, mode := .seekingStart, buffer := [] }
    else if b = END then
      { c with cfg := { c.cfg with dialect := .simple }, mode := .accumulating, buffer := [] }
    else if (selectorOf b).isSome then c
    else if b = ACK then { c with cfg := { c.cfg with replyTerm := .ack } }
    else
      { c with
        cfg := { c.cfg with dialect := .checksummed }
        mode := .seekingChecksum
        buffer := [0x00, b]
        cks := xorAll [START, 0x00, b, END] }

/-- The context of the reset state. -/
def Ctx.reference : Ctx :=
  { cfg := Config.reference, mode := .seekingStart, buffer := [], cks := 0, lastSequence := none,
    fan := 0, pump := 0 }

/-- The instruction the decoder reads from a table word (the host's name and numbering). -/
def decodeTableWord (nbits w : Nat) : Option Instr :=
  match decode (tableCtx (wordBytes nbits w) Ctx.reference) (tableCall (wordBytes nbits w)) with
  | .ok i => some i
  | .error _ => none

end Sys2Proof
end

