-- ==== Sys2Proof/Machine/State.lean ====
section
/-! DEFINITION. The state of one block as plain data (10_state.md R20), its reset value (R40), the
results and status values (R33, R34), and the reasons a step can stop. -/

namespace Sys2Proof.Machine

open Sys2Proof

/-- FrameResult, the outcome of a terminated frame (10_state.md R33). -/
inductive FrameResult where
  | command (sel : Selector) (args : List Byte)
  | unknown (bytes : List Byte)
  | frame (fr : Frame)
  | frameTooLong
  | checksumError
  deriving DecidableEq, Repr

/-- DispatchStatus (10_state.md R34, 42_dispatcher.md R152). -/
inductive DispatchStatus where
  | ok
  | queryAnswered
  | argumentUnparseable
  | argumentOutOfRange
  deriving DecidableEq, Repr

/-- RampStatus (10_state.md R34, 43_ramp.md R180). -/
inductive RampStatus where
  | converged
  | stepping
  deriving DecidableEq, Repr

/-- The event of TICK's second step, handed to the result port (60_exceptions.md R228; 44_tick.md R194
to R196). -/
inductive TickEvent where
  | noEvent
  | held
  | dispatched (sel : Selector) (args : List Byte) (status : DispatchStatus)
  | reported (r : FrameResult)
  deriving DecidableEq, Repr

/-- The value an operation returns to the code that called it directly (10_state.md R37 (4)); `encoded` is
ENCODE_C's byte string (41_decoder_checksummed.md R132), or a REPLYTERM row's byte (log entry 14). -/
inductive ReturnValue where
  | feed (r : Option FrameResult)
  | dispatch (status : DispatchStatus)
  | ramp (status : RampStatus)
  | encoded (bytes : List Byte)
  deriving DecidableEq, Repr

/-- One write to an actuator, ActWrite(a, v) (00_scope.md R12). -/
structure ActWrite where
  actuator : Actuator
  level : Level
  deriving DecidableEq, Repr

/-- What reaches the block from outside between two operations (log entries 2 and 3). -/
inductive Input where
  /-- bytes arrive at the byte source -/
  | arrive (bytes : List Byte)
  /-- surrounding code calls the operation the word stands for -/
  | call (w : Call)
  deriving DecidableEq, Repr

/-- The state. The first fields are the spec's tuple (10_state.md R20); `cfg` holds the static
parameters; the rest are the ports. -/
structure State where
  /-- the static parameters, written by no operation (00_scope.md R9, 10_state.md R35; log entry 1) -/
  cfg : Config
  /-- 10_state.md R21 -/
  mode : Mode
  /-- 10_state.md R22 -/
  buffer : List Byte
  /-- 10_state.md R23 -/
  cks : Byte
  /-- 10_state.md R24 -/
  lastSequence : Option Byte
  /-- 10_state.md R25 -/
  pending : Option FrameResult
  /-- current[fan], 10_state.md R26 -/
  currentFan : Level
  /-- current[pump], 10_state.md R26 -/
  currentPump : Level
  /-- target[fan], 10_state.md R27 -/
  targetFan : Level
  /-- target[pump], 10_state.md R27 -/
  targetPump : Level
  /-- 10_state.md R30 -/
  relay : Option Frame
  /-- what the byte source holds, oldest byte first (60_exceptions.md R228; log entry 3) -/
  rx : List Byte
  /-- the bytes written to the byte sink so far (10_state.md R37 (1)) -/
  tx : List Byte
  /-- the actuator writes so far (10_state.md R37 (2)) -/
  acts : List ActWrite
  /-- the events of the result port so far, one a tick (10_state.md R37 (3)) -/
  results : List TickEvent
  /-- the pairs of the ramp status port so far, one a tick (60_exceptions.md R228) -/
  ramps : List (RampStatus × RampStatus)
  /-- the values returned by directly called operations so far (10_state.md R37 (4)) -/
  returns : List ReturnValue
  /-- what is still to come from outside, first event first (log entry 2) -/
  inputs : List Input
  deriving DecidableEq, Repr

/-- The block has no fault (60_exceptions.md R217: "A model has no fault state for this block"): the
type has no constructor, so no step can end in one. Safe. -/
inductive Fault where
  deriving DecidableEq, Repr

/-- Why a step is refused. All of them are safe: the model stops and nothing is claimed. -/
inductive Refusal where
  /-- an arm of exec that has no meaning yet; no arm raises it. Safe. -/
  | notModelled (mnemonic : String)
  /-- the parameters break 00_scope.md R9 (93_implementation_defined.md U9); raised by step. Safe. -/
  | illFormedParameters
  /-- FEED_S in the mode SeekingChecksum, which the simple dialect never reaches
  (40_decoder_simple.md R110, 93 U3); raised by FEED_S, SFRAME and TICK. Safe. -/
  | checksumModeInSimple
  /-- an operation of the dialect that this block does not decode (40 and 41, opening sentences;
  44_tick.md R191; log entry 6); raised by FEED_S, FEED_C, SFRAME and CFRAME. Safe. -/
  | otherDialect
  /-- a table row whose "when" does not hold in this state, so the block never runs it there
  (30_encoding.md R86; log entry 5); raised by the RXBYTE, SEQBYTE, REPLYTERM and UNKNOWN
  rows and by REPLY.REJECTED. Safe. -/
  | rowNotSelected
  /-- a call whose bytes are no word of their format; raised by the fetch. Safe. -/
  | undecodable (e : DecodeError)
  deriving DecidableEq, Repr

/-- The part of the state the decoder reads. -/
def State.ctx (s : State) : Ctx :=
  { cfg := s.cfg, mode := s.mode, buffer := s.buffer, cks := s.cks, lastSequence := s.lastSequence,
    fan := s.currentFan, pump := s.currentPump }

/-- The state right after reset of a block with the given parameters: the table of 10_state.md R40,
nothing read, written or called yet. -/
def State.resetOf (c : Config) : State :=
  { cfg := c, mode := .seekingStart, buffer := [], cks := 0x00, lastSequence := none, pending := none,
    currentFan := 0, currentPump := 0, targetFan := 0, targetPump := 0, relay := none,
    rx := [], tx := [], acts := [], results := [], ramps := [], returns := [], inputs := [] }

/-- The machine right after reset. The parameters are log entry 1's. -/
def State.reset : State := State.resetOf Config.reference

end Sys2Proof.Machine
end

