-- ==== Sys2Proof/Machine/Flags.lean ====
section
/-! DEFINITION. Status signals: functions of the state (10_state.md R34), the tests the operations
make on it, and the optional numeric codes (60_exceptions.md R218). None of them is stored. -/

namespace Sys2Proof.Machine

open Sys2Proof

/-- current[a] (10_state.md R26). -/
def State.current (s : State) : Actuator → Level
  | .fan => s.currentFan
  | .pump => s.currentPump

/-- target[a] (10_state.md R27). -/
def State.target (s : State) : Actuator → Level
  | .fan => s.targetFan
  | .pump => s.targetPump

/-- at_target(a): current[a] = target[a] (10_state.md R34). -/
def State.atTarget (s : State) (a : Actuator) : Bool := s.current a == s.target a

/-- Both actuators are at their targets (the hold test of 44_tick.md R194). -/
def State.settled (s : State) : Bool := s.atTarget .fan && s.atTarget .pump

/-- pending_valid: pending != None (10_state.md R34). -/
def State.pendingValid (s : State) : Bool := s.pending.isSome

/-- The buffered frame's fields, when both address and sequence byte are there
(41_decoder_checksummed.md R130). -/
def State.verifiedFrame (s : State) : Option Frame :=
  match s.buffer with
  | address :: sequence :: payload => some ⟨address, sequence, payload⟩
  | _ => none

/-- A set command: selector F or P (44_tick.md R194). -/
def isSetCommand : Selector → Bool
  | .f => true
  | .p => true
  | .q => false

/-- The numbers of 60_exceptions.md R218, which no rule depends on: result kinds. -/
def resultCode : Option FrameResult → Nat
  | none => 0
  | some (.command _ _) => 1
  | some (.unknown _) => 2
  | some (.frame _) => 3
  | some .frameTooLong => 4
  | some .checksumError => 5

/-- DispatchStatus (60_exceptions.md R218). -/
def DispatchStatus.code : DispatchStatus → Nat
  | .ok => 0
  | .queryAnswered => 1
  | .argumentUnparseable => 2
  | .argumentOutOfRange => 3

/-- Modes (60_exceptions.md R218). -/
def modeCode : Mode → Nat
  | .seekingStart => 0
  | .accumulating => 1
  | .seekingChecksum => 2

/-- RampStatus (60_exceptions.md R218). -/
def RampStatus.code : RampStatus → Nat
  | .converged => 0
  | .stepping => 1

end Sys2Proof.Machine
end

