-- ==== Sys2Proof/Machine/Ops.lean ====
section
/-! DEFINITION. The named operations over the frame buffer, the registers and the ports, the one shared
error operation `raise`, and how a directly called operation ends. -/

namespace Sys2Proof.Machine

open Sys2Proof

/-! The frame buffer (20_memory.md R50 to R53). -/

/-- MemRead(i, 1): byte i of the buffer, nothing at or above its length (20_memory.md R51, R52). -/
def State.memRead (s : State) (i : Nat) : Option Byte := s.buffer[i]?

/-- MemWrite(len(buffer), 1, b), the only store (20_memory.md R53). -/
def State.memAppend (s : State) (b : Byte) : State := { s with buffer := s.buffer ++ [b] }

/-- Clearing the buffer (20_memory.md R51). -/
def State.memClear (s : State) : State := { s with buffer := [] }

/-- The buffer holds MAX_FRAME_LEN bytes and takes no further one (20_memory.md R53; log entry 9). -/
def State.full (s : State) : Bool := decide (s.cfg.maxFrameLen ≤ s.buffer.length)

/-- The form of the memory: within its bound (10_state.md R22). A list holds nothing beyond its
length, so equal memories are equal data (20_memory.md R51). -/
def Memory.wf (s : State) : Bool := decide (s.buffer.length ≤ s.cfg.maxFrameLen)

/-! Registers. -/

/-- mode <- m. -/
def State.setMode (s : State) (m : Mode) : State := { s with mode := m }

/-- cks <- x. -/
def State.setCks (s : State) (x : Byte) : State := { s with cks := x }

/-- pending <- p. -/
def State.setPending (s : State) (p : Option FrameResult) : State := { s with pending := p }

/-- current[a] <- v. -/
def State.setCurrent (s : State) (a : Actuator) (v : Level) : State :=
  match a with
  | .fan => { s with currentFan := v }
  | .pump => { s with currentPump := v }

/-- target[a] <- v. -/
def State.setTarget (s : State) (a : Actuator) (v : Level) : State :=
  match a with
  | .fan => { s with targetFan := v }
  | .pump => { s with targetPump := v }

/-- last_sequence and relay, written together (10_state.md R30). -/
def State.setAccepted (s : State) (fr : Frame) : State :=
  { s with lastSequence := some fr.sequence, relay := some fr }

/-! Ports (60_exceptions.md R228). -/

/-- What is left in the byte source after RxRead (20_memory.md R57). -/
def State.setRx (s : State) (bs : List Byte) : State := { s with rx := bs }

/-- TxWrite(bs) (00_scope.md R12). -/
def State.txWrite (s : State) (bs : List Byte) : State := { s with tx := s.tx ++ bs }

/-- ActWrite(a, v) (00_scope.md R12). -/
def State.actWrite (s : State) (a : Actuator) (v : Level) : State :=
  { s with acts := s.acts ++ [⟨a, v⟩] }

/-- An event on the result port. -/
def State.logEvent (s : State) (e : TickEvent) : State := { s with results := s.results ++ [e] }

/-- The two statuses on the ramp status port. -/
def State.logRamps (s : State) (f p : RampStatus) : State := { s with ramps := s.ramps ++ [(f, p)] }

/-- The value returned to the caller. -/
def State.logReturn (s : State) (r : ReturnValue) : State := { s with returns := s.returns ++ [r] }

/-- The inputs still to come. -/
def State.setInputs (s : State) (l : List Input) : State := { s with inputs := l }

/-! The decoder's shared endings. -/

/-- What a FEED operation leaves: the state and its result. -/
abbrev Fed := State × Option FrameResult

/-- The ready state of the decoder: SeekingStart, empty buffer (60_exceptions.md R214). -/
def State.ready (s : State) : State := (s.setMode .seekingStart).memClear

/-- raise E: mode <- SeekingStart, buffer <- [], result <- Some(E), and nothing else
(60_exceptions.md R214). This is the block's whole exception entry: nothing is saved, no privilege or
mask changes, control goes to no handler (R221). There is no return operation (R222). -/
def raise (e : FrameResult) (s : State) : Fed := (s.ready, some e)

/-- A directly called FEED hands its result to the caller (44_tick.md R202). -/
def deliver (x : Fed) : Host.Outcome State Fault Refusal := .next (x.1.logReturn (.feed x.2))

/-- A row runs where its "when" holds and is refused by name elsewhere (log entry 5). -/
def whenRow (sel : Bool) (x : Fed) : Host.Outcome State Fault Refusal :=
  if sel then deliver x else .refused .rowNotSelected

/-- The simple dialect's decoder in the given mode. -/
def State.inSimple (s : State) (m : Mode) : Bool := s.cfg.dialect == .simple && s.mode == m

/-- The checksummed dialect's decoder in the given mode. -/
def State.inChecksummed (s : State) (m : Mode) : Bool := s.cfg.dialect == .checksummed && s.mode == m

end Sys2Proof.Machine
end

