-- ==== Sys2Proof/Machine/Checksummed.lean ====
section
/-! DEFINITION. FEED_C, the decoder of the checksummed dialect: one operation per case
(41_decoder_checksummed.md R121 to R129), the contract that selects the case (R120), the meanings of
the FEED_C and SEQBYTE rows, and ENCODE_C (R132). -/

namespace Sys2Proof.Machine

open Sys2Proof

/-- Case discard (41_decoder_checksummed.md R121). -/
def checkedDiscard (s : State) : Fed := (s, none)

/-- Case start: the checksum is seeded with START (R122). -/
def checkedStart (s : State) : Fed := (((s.setMode .accumulating).memClear).setCks START, none)

/-- Case append (R123). -/
def checkedAppend (b : Byte) (s : State) : Fed := ((s.memAppend b).setCks (s.cks ^^^ b), none)

/-- Case end: END enters the checksum and not the buffer (R124). -/
def checkedEnd (s : State) : Fed := ((s.setCks (s.cks ^^^ END)).setMode .seekingChecksum, none)

/-- Case overflow (R125). -/
def checkedOverflow (s : State) : Fed := raise .frameTooLong s

/-- Case checksum mismatch (R126). -/
def checkedMismatch (s : State) : Fed := raise .checksumError s

/-- Case short frame (R127). -/
def checkedShort (s : State) : Fed := (s.ready, some (.unknown s.buffer))

/-- Case duplicate: silently discarded (R128). -/
def checkedDuplicate (s : State) : Fed := (s.ready, none)

/-- Case accept (R129). -/
def checkedAccept (fr : Frame) (s : State) : Fed := (s.ready.setAccepted fr, some (.frame fr))

/-- The tests on a frame whose checksum has matched, in the order of R120. -/
def judgeFrame (s : State) : Fed :=
  match s.verifiedFrame with
  | none => checkedShort s
  | some fr => if duplicate fr.sequence s.lastSequence then checkedDuplicate s else checkedAccept fr s

/-- FEED_C(b), the order of the tests (41_decoder_checksummed.md R120). -/
def feedChecked (b : Byte) (s : State) : Fed :=
  match s.mode with
  | .seekingStart => if b = START then checkedStart s else checkedDiscard s
  | .accumulating =>
    if b = END then checkedEnd s
    else if s.full then checkedOverflow s
    else checkedAppend b s
  | .seekingChecksum => if b ≠ s.cks then checkedMismatch s else judgeFrame s

/-- FEED_C.START (R122). -/
def execFeedCStart (s : State) : Host.Outcome State Fault Refusal :=
  whenRow (s.inChecksummed .seekingStart) (checkedStart s)

/-- FEED_C.DISCARD (R121). -/
def execFeedCDiscard (b : Byte) (s : State) : Host.Outcome State Fault Refusal :=
  whenRow (s.inChecksummed .seekingStart && b != START) (checkedDiscard s)

/-- FEED_C.END (R124). -/
def execFeedCEnd (s : State) : Host.Outcome State Fault Refusal :=
  whenRow (s.inChecksummed .accumulating) (checkedEnd s)

/-- FEED_C.OVERFLOW (R125). -/
def execFeedCOverflow (b : Byte) (s : State) : Host.Outcome State Fault Refusal :=
  whenRow (s.inChecksummed .accumulating && b != END && s.full) (checkedOverflow s)

/-- FEED_C.APPEND (R123). -/
def execFeedCAppend (b : Byte) (s : State) : Host.Outcome State Fault Refusal :=
  whenRow (s.inChecksummed .accumulating && b != END && !s.full) (checkedAppend b s)

/-- FEED_C.CKS_MISMATCH (R126). -/
def execFeedCCksMismatch (b : Byte) (s : State) : Host.Outcome State Fault Refusal :=
  whenRow (s.inChecksummed .seekingChecksum && b != s.cks) (checkedMismatch s)

/-- FEED_C.CKS_SHORT (R127). -/
def execFeedCCksShort (b : Byte) (s : State) : Host.Outcome State Fault Refusal :=
  whenRow (s.inChecksummed .seekingChecksum && b == s.cks && decide (s.buffer.length < 2))
    (checkedShort s)

/-- FEED_C.CKS_DUPLICATE (R128). -/
def execFeedCCksDuplicate (b : Byte) (s : State) : Host.Outcome State Fault Refusal :=
  match s.verifiedFrame with
  | none => .refused .rowNotSelected
  | some fr =>
    whenRow (s.inChecksummed .seekingChecksum && b == s.cks && duplicate fr.sequence s.lastSequence)
      (checkedDuplicate s)

/-- FEED_C.CKS_ACCEPT (R129). -/
def execFeedCCksAccept (b : Byte) (s : State) : Host.Outcome State Fault Refusal :=
  match s.verifiedFrame with
  | none => .refused .rowNotSelected
  | some fr =>
    whenRow (s.inChecksummed .seekingChecksum && b == s.cks && !duplicate fr.sequence s.lastSequence)
      (checkedAccept fr s)

/-- SEQ.REPEAT: the verified frame in the buffer carries this sequence byte, repeat flag set: discarded
silently iff the number is the last one's, else accepted (R128, R129; log entry 12). -/
def execSeqRepeat (upper : BitVec 4) (number : BitVec 3) (s : State) : Host.Outcome State Fault Refusal :=
  match s.verifiedFrame with
  | none => .refused .rowNotSelected
  | some fr =>
    whenRow (s.inChecksummed .seekingChecksum && fr.sequence == seqByte upper true number)
      (if duplicate fr.sequence s.lastSequence then checkedDuplicate s else checkedAccept fr s)

/-- SEQ.NEW: the verified frame in the buffer carries this sequence byte, repeat flag clear: always
accepted as new (R129; log entry 12). -/
def execSeqNew (upper : BitVec 4) (number : BitVec 3) (s : State) : Host.Outcome State Fault Refusal :=
  match s.verifiedFrame with
  | none => .refused .rowNotSelected
  | some fr =>
    whenRow (s.inChecksummed .seekingChecksum && fr.sequence == seqByte upper false number)
      (checkedAccept fr s)

/-- FEED_C (R120), which a checksummed block has and a simple one has not (44_tick.md R191; log entry 6). -/
def execFeedC (b : Byte) (s : State) : Host.Outcome State Fault Refusal :=
  match s.cfg.dialect with
  | .simple => .refused .otherDialect
  | .checksummed => deliver (feedChecked b s)

/-- ENCODE_C: the bytes are returned, nothing is read or written (R132). That it runs on a simple block too,
although the file of R132 applies when DIALECT = Checksummed, is the model's own: DESIGN CHOICE, log entry 20. -/
def execEncodeC (address sequence : Byte) (payload : List Byte) (s : State) :
    Host.Outcome State Fault Refusal :=
  .next (s.logReturn (.encoded (encodeFrame address sequence payload)))

end Sys2Proof.Machine
end

