-- ==== Sys2Proof/Machine/Dispatcher.lean ====
section
/-! DEFINITION. DISPATCH and the commands F, P, Q (42_dispatcher.md R150 to R165), the replies
(30_encoding.md R79 to R81) and the report of a frame that is no command (44_tick.md R196). -/

namespace Sys2Proof.Machine

open Sys2Proof

/-- Case accepted of F and P: the target, then the one reply (42_dispatcher.md R156, R158). -/
def acceptSet (a : Actuator) (v : Level) (s : State) : State × DispatchStatus :=
  ((s.setTarget a v).txWrite (acceptedReply s.cfg.replyTerm a v), .ok)

/-- The two error cases of F and P: the one reply, the arguments as received, no target written
(42_dispatcher.md R154, R155, R157). -/
def rejectSet (a : Actuator) (args : List Byte) (st : DispatchStatus) (s : State) : State × DispatchStatus :=
  (s.txWrite (rejectedReply s.cfg.replyTerm a args), st)

/-- F and P: the cases unparseable, out of range, accepted (42_dispatcher.md R150, R154 to R156). The
range test is the closed interval (R165). -/
def dispatchSet (a : Actuator) (args : List Byte) (s : State) : State × DispatchStatus :=
  match parseDec args with
  | none => rejectSet a args .argumentUnparseable s
  | some v =>
    if MAX_LEVEL < v then rejectSet a args .argumentOutOfRange s
    else acceptSet a (BitVec.ofNat 8 v) s

/-- Q: the current levels are reported, the arguments ignored (42_dispatcher.md R160, R163). -/
def dispatchQuery (s : State) : State × DispatchStatus :=
  (s.txWrite (queryReply s.cfg (s.current .fan) (s.current .pump)), .queryAnswered)

/-- DISPATCH(Command{selector, args}) (42_dispatcher.md R150, R151). -/
def dispatch (sel : Selector) (args : List Byte) (s : State) : State × DispatchStatus :=
  match sel.actuator with
  | some a => dispatchSet a args s
  | none => dispatchQuery s

/-- A directly called DISPATCH hands its status to the caller (42_dispatcher.md R152). -/
def answered (x : State × DispatchStatus) : Host.Outcome State Fault Refusal :=
  .next (x.1.logReturn (.dispatch x.2))

/-- F (42_dispatcher.md R154 to R156). By itself the row is a direct DISPATCH (log entry 14), which runs in
either dialect (log entry 7). -/
def execF (args : List Byte) (s : State) : Host.Outcome State Fault Refusal :=
  answered (dispatchSet .fan args s)

/-- P (R154 to R156). By itself the row is a direct DISPATCH (log entry 14), in either dialect (log entry
7). -/
def execP (args : List Byte) (s : State) : Host.Outcome State Fault Refusal :=
  answered (dispatchSet .pump args s)

/-- Q (R160, R163): its argument bytes do not reach the dispatcher's case. By itself the row is a direct
DISPATCH (log entry 14), in either dialect (log entry 7). -/
def execQ (args : List Byte) (s : State) : Host.Outcome State Fault Refusal :=
  answered (dispatch .q args s)

/-- UNKNOWN: reported upstream, no reply, no register written (40_decoder_simple.md R107, 44_tick.md R196).
DESIGN CHOICE (log entry 14): the row by itself is this report, outside any tick, in either dialect. -/
def execUnknown (bytes : List Byte) (s : State) : Host.Outcome State Fault Refusal :=
  if isUnknown bytes then .next (s.logEvent (.reported (.unknown bytes)))
  else .refused .rowNotSelected

/-- DISPATCH (42_dispatcher.md R150). DEDUCED (log entry 7): a direct call runs in either dialect, though
TICK never makes one in the checksummed dialect (R164). -/
def execDispatch (sel : Selector) (args : List Byte) (s : State) : Host.Outcome State Fault Refusal :=
  answered (dispatch sel args s)

/-- TERM.END: a reply's last byte where REPLY_TERM = END (30_encoding.md R81). DESIGN CHOICE (log entry
14): the row by itself hands that byte back to its caller, in either dialect, and writes nothing: a reply is
one TxWrite of DISPATCH (42_dispatcher.md R161). -/
def execTermEnd (s : State) : Host.Outcome State Fault Refusal :=
  if s.cfg.replyTerm = .fin then .next (s.logReturn (.encoded [END])) else .refused .rowNotSelected

/-- TERM.ACK: a reply's last byte where REPLY_TERM = ACK (30_encoding.md R81). DESIGN CHOICE (log entry
14): the row by itself hands that byte back to its caller, in either dialect, and writes nothing. -/
def execTermAck (s : State) : Host.Outcome State Fault Refusal :=
  if s.cfg.replyTerm = .ack then .next (s.logReturn (.encoded [ACK])) else .refused .rowNotSelected

/-- REPLY.ACCEPTED: the reply written by DISPATCH's case accepted, its value the one now in target[a]
(42_dispatcher.md R156, R158). DESIGN CHOICE (log entry 14): the row by itself is that case of a direct
DISPATCH, so that no reply is written but by a DISPATCH (R161); it runs in either dialect, where
30_encoding.md R70 gives REPLY for the simple dialect and 00_scope.md R7 leaves replies in the checksummed
dialect out. -/
def execReplyAccepted (a : Actuator) (v : Level) (s : State) : Host.Outcome State Fault Refusal :=
  answered (acceptSet a v s)

/-- REPLY.REJECTED: the reply written by DISPATCH's cases unparseable and out of range (42_dispatcher.md
R154, R155, R157). DESIGN CHOICE (log entry 14): the row by itself is that case of a direct DISPATCH, in
either dialect; arguments that DISPATCH accepts have no such reply (30_encoding.md R80, its "when"), and the
row is refused for them (log entry 5). -/
def execReplyRejected (a : Actuator) (args : List Byte) (s : State) : Host.Outcome State Fault Refusal :=
  if rejectable args then answered (dispatchSet a args s) else .refused .rowNotSelected

/-- REPLY.QUERY: the reply written by DISPATCH's case Q, with the current levels (42_dispatcher.md R160).
DESIGN CHOICE (log entry 14): the row by itself is that case of a direct DISPATCH, in either dialect. -/
def execReplyQuery (s : State) : Host.Outcome State Fault Refusal :=
  answered (dispatchQuery s)

end Sys2Proof.Machine
end

