-- ==== Sys2Proof/Machine/Ramp.lean ====
section
/-! DEFINITION. ADVANCE, the ramp controller (43_ramp.md R180 to R187). -/

namespace Sys2Proof.Machine

open Sys2Proof

/-- One unit from c toward t (43_ramp.md R182). -/
def stepToward (c t : Level) : Level := if c.toNat < t.toNat then c + 1 else c - 1

/-- ADVANCE(a): converged or one step, the new level written to the output (43_ramp.md R180 to R182). -/
def advance (a : Actuator) (s : State) : State × RampStatus :=
  if s.current a = s.target a then (s, .converged)
  else
    let v := stepToward (s.current a) (s.target a)
    ((s.setCurrent a v).actWrite a v, .stepping)

/-- ADVANCE, called directly: the status goes to the caller (43_ramp.md R180). -/
def execAdvance (a : Actuator) (s : State) : Host.Outcome State Fault Refusal :=
  .next ((advance a s).1.logReturn (.ramp (advance a s).2))

end Sys2Proof.Machine
end

