-- ==== Sys2Proof/Machine/Simple.lean ====
section
/-! DEFINITION. FEED_S, the decoder of the simple dialect: one operation per case (40_decoder_simple.md
R101 to R105), the contract that selects the case (R100), and the meanings of the FEED_S rows. -/

namespace Sys2Proof.Machine

open Sys2Proof

/-- Classification of a terminated frame (40_decoder_simple.md R106, R107). -/
def classify (bytes : List Byte) : FrameResult :=
  match bytes with
  | [] => .unknown []
  | b :: args =>
    match selectorOf b with
    | some sel => .command sel args
    | none => .unknown (b :: args)

/-- Case discard (40_decoder_simple.md R101). -/
def simpleDiscard (s : State) : Fed := (s, none)

/-- Case start (R102). -/
def simpleStart (s : State) : Fed := ((s.setMode .accumulating).memClear, none)

/-- Case end (R103). -/
def simpleEnd (s : State) : Fed := (s.ready, some (classify s.buffer))

/-- Case append (R104). -/
def simpleAppend (b : Byte) (s : State) : Fed := (s.memAppend b, none)

/-- Case overflow (R105); the byte is consumed. -/
def simpleOverflow (s : State) : Fed := raise .frameTooLong s

/-- FEED_S(b), the order of the tests (40_decoder_simple.md R100). -/
def feedSimple (b : Byte) (s : State) : Except Refusal Fed :=
  match s.mode with
  | .seekingStart => if b = START then .ok (simpleStart s) else .ok (simpleDiscard s)
  | .accumulating =>
    if b = END then .ok (simpleEnd s)
    else if s.full then .ok (simpleOverflow s)
    else .ok (simpleAppend b s)
  | .seekingChecksum => .error .checksumModeInSimple

/-- FEED_S.START (40_decoder_simple.md R102). -/
def execFeedSStart (s : State) : Host.Outcome State Fault Refusal :=
  whenRow (s.inSimple .seekingStart) (simpleStart s)

/-- FEED_S.DISCARD (R101). -/
def execFeedSDiscard (b : Byte) (s : State) : Host.Outcome State Fault Refusal :=
  whenRow (s.inSimple .seekingStart && b != START) (simpleDiscard s)

/-- FEED_S.END (R103). -/
def execFeedSEnd (s : State) : Host.Outcome State Fault Refusal :=
  whenRow (s.inSimple .accumulating) (simpleEnd s)

/-- FEED_S.OVERFLOW (R105). -/
def execFeedSOverflow (b : Byte) (s : State) : Host.Outcome State Fault Refusal :=
  whenRow (s.inSimple .accumulating && b != END && s.full) (simpleOverflow s)

/-- FEED_S.APPEND (R104). -/
def execFeedSAppend (b : Byte) (s : State) : Host.Outcome State Fault Refusal :=
  whenRow (s.inSimple .accumulating && b != END && !s.full) (simpleAppend b s)

/-- FEED_S (R100), which a simple block has and a checksummed one has not (44_tick.md R191; log entry 6). -/
def execFeedS (b : Byte) (s : State) : Host.Outcome State Fault Refusal :=
  match s.cfg.dialect with
  | .checksummed => .refused .otherDialect
  | .simple =>
    match feedSimple b s with
    | .ok x => deliver x
    | .error r => .refused r

end Sys2Proof.Machine
end

