-- ==== Sys2Proof/Machine/Tick.lean ====
section
/-! DEFINITION. TICK: ingest, at most one dispatch, one advance per actuator (44_tick.md R190 to R202);
the reception of a whole frame (30_encoding.md R72, R75) and RESET (70_reset_and_hazards.md R240). -/

namespace Sys2Proof.Machine

open Sys2Proof

/-- FEED(b): FEED_S or FEED_C by the dialect (44_tick.md R191). -/
def feed (b : Byte) (s : State) : Except Refusal Fed :=
  match s.cfg.dialect with
  | .simple => feedSimple b s
  | .checksummed => .ok (feedChecked b s)

/-- A frame's result fills pending (44_tick.md R192). -/
def fillPending (x : Fed) : State :=
  match x.2 with
  | none => x.1
  | some r => x.1.setPending (some r)

/-- The ingest loop with n reads left of the burst (44_tick.md R192). -/
def ingest : Nat → State → Except Refusal State
  | 0, s => .ok s
  | n + 1, s =>
    match s.pending, s.rx with
    | some _, _ => .ok s
    | none, [] => .ok s
    | none, b :: rest =>
      match feed b (s.setRx rest) with
      | .error r => .error r
      | .ok x => ingest n (fillPending x)

/-- Step 2: hold, dispatch, report or nothing (44_tick.md R194 to R196). -/
def dispatchStep (s : State) : State × TickEvent :=
  match s.pending with
  | none => (s, .noEvent)
  | some (.command sel args) =>
    if isSetCommand sel && !s.settled then (s, .held)
    else
      let x := dispatch sel args s
      (x.1.setPending none, .dispatched sel args x.2)
  | some (.unknown bytes) => (s.setPending none, .reported (.unknown bytes))
  | some (.frame fr) => (s.setPending none, .reported (.frame fr))
  | some .frameTooLong => (s.setPending none, .reported .frameTooLong)
  | some .checksumError => (s.setPending none, .reported .checksumError)

/-- Step 3: fan first, then pump (44_tick.md R197). -/
def advanceStep (s : State) : State × RampStatus × RampStatus :=
  let f := advance .fan s
  let p := advance .pump f.1
  (p.1, f.2, p.2)

/-- Steps 2 and 3 and the two upstream ports (44_tick.md R190, 60_exceptions.md R228). -/
def afterIngest (s : State) : State :=
  let d := dispatchStep s
  let r := advanceStep d.1
  (r.1.logEvent d.2).logRamps r.2.1 r.2.2

/-- TICK (44_tick.md R190). -/
def execTick (s : State) : Host.Outcome State Fault Refusal :=
  match ingest s.cfg.burstMax s with
  | .error r => .refused r
  | .ok t => .next (afterIngest t)

/-- Feeding a list of bytes one by one, each result handed to the caller. -/
def feedAll : List Byte → State → Except Refusal State
  | [], s => .ok s
  | b :: bs, s =>
    match feed b s with
    | .error r => .error r
    | .ok x => feedAll bs (x.1.logReturn (.feed x.2))

/-- The reception of a frame of the given dialect by direct calls of FEED (44_tick.md R202). -/
def receive (d : Dialect) (bs : List Byte) (s : State) : Host.Outcome State Fault Refusal :=
  if s.cfg.dialect = d then
    match feedAll bs s with
    | .error r => .refused r
    | .ok t => .next t
  else .refused .otherDialect

/-- SFRAME: START, the buffered bytes and END are fed one by one (30_encoding.md R72; log entry 13). -/
def execSFrame (body : List Byte) (s : State) : Host.Outcome State Fault Refusal :=
  receive .simple ([START] ++ body ++ [END]) s

/-- CFRAME: the SYNC bytes and ENCODE_C's bytes are fed one by one (30_encoding.md R75; log entry 13). -/
def execCFrame (sync : Nat) (address sequence : Byte) (payload : List Byte) (s : State) :
    Host.Outcome State Fault Refusal :=
  receive .checksummed (List.replicate sync SYNC ++ encodeFrame address sequence payload) s

/-- RESET: every element of 10_state.md R40 takes its reset value; no port is written and the byte
source keeps what it holds (70_reset_and_hazards.md R240; log entry 15). -/
def execReset (s : State) : Host.Outcome State Fault Refusal :=
  .next { s with
    mode := .seekingStart, buffer := [], cks := 0x00, lastSequence := none, pending := none,
    currentFan := 0, currentPump := 0, targetFan := 0, targetPump := 0, relay := none }

end Sys2Proof.Machine
end

