-- ==== Sys2Proof/Machine/Dispatch.lean ====
section
/-! DEFINITION. One arm per constructor of Instr, each one direct call of its meaning. -/

namespace Sys2Proof.Machine

open Sys2Proof

def exec (i : Instr) (s : State) : Host.Outcome State Fault Refusal :=
  match i with
  | .feedSStart => Sys2Proof.Machine.execFeedSStart s
  | .feedSDiscard b => Sys2Proof.Machine.execFeedSDiscard b s
  | .feedSEnd => Sys2Proof.Machine.execFeedSEnd s
  | .feedSOverflow b => Sys2Proof.Machine.execFeedSOverflow b s
  | .feedSAppend b => Sys2Proof.Machine.execFeedSAppend b s
  | .feedCStart => Sys2Proof.Machine.execFeedCStart s
  | .feedCDiscard b => Sys2Proof.Machine.execFeedCDiscard b s
  | .feedCEnd => Sys2Proof.Machine.execFeedCEnd s
  | .feedCOverflow b => Sys2Proof.Machine.execFeedCOverflow b s
  | .feedCAppend b => Sys2Proof.Machine.execFeedCAppend b s
  | .feedCCksMismatch b => Sys2Proof.Machine.execFeedCCksMismatch b s
  | .feedCCksShort b => Sys2Proof.Machine.execFeedCCksShort b s
  | .feedCCksDuplicate b => Sys2Proof.Machine.execFeedCCksDuplicate b s
  | .feedCCksAccept b => Sys2Proof.Machine.execFeedCCksAccept b s
  | .f args => Sys2Proof.Machine.execF args s
  | .p args => Sys2Proof.Machine.execP args s
  | .q args => Sys2Proof.Machine.execQ args s
  | .unknown bytes => Sys2Proof.Machine.execUnknown bytes s
  | .seqRepeat upper number => Sys2Proof.Machine.execSeqRepeat upper number s
  | .seqNew upper number => Sys2Proof.Machine.execSeqNew upper number s
  | .termEnd => Sys2Proof.Machine.execTermEnd s
  | .termAck => Sys2Proof.Machine.execTermAck s
  | .replyAccepted a v => Sys2Proof.Machine.execReplyAccepted a v s
  | .replyRejected a args => Sys2Proof.Machine.execReplyRejected a args s
  | .replyQuery => Sys2Proof.Machine.execReplyQuery s
  | .sframe body => Sys2Proof.Machine.execSFrame body s
  | .cframe sync address sequence payload => Sys2Proof.Machine.execCFrame sync address sequence payload s
  | .feedS b => Sys2Proof.Machine.execFeedS b s
  | .feedC b => Sys2Proof.Machine.execFeedC b s
  | .encodeC address sequence payload => Sys2Proof.Machine.execEncodeC address sequence payload s
  | .dispatch sel args => Sys2Proof.Machine.execDispatch sel args s
  | .advance a => Sys2Proof.Machine.execAdvance a s
  | .tick => Sys2Proof.Machine.execTick s
  | .reset => Sys2Proof.Machine.execReset s

end Sys2Proof.Machine
end

