-- ==== Sys2Proof/Machine/Fetch.lean ====
section
/-! DEFINITION. What the next step runs. The block fetches no instruction (10_state.md R32): its
operations are called from outside, and when nothing is called the control loop runs TICK (44_tick.md
R190; log entry 2). -/

namespace Sys2Proof.Machine

open Sys2Proof

/-- The next thing to happen. -/
inductive Fetched where
  /-- an operation runs on the given state -/
  | run (i : Instr) (s : State)
  /-- bytes have reached the byte source -/
  | arrived (s : State)

/-- The next input, or TICK when there is none. The called word is read in the state it is called in,
as a received byte is read in the decoder's mode (30_encoding.md R86). -/
def fetch (s : State) : Except Refusal Fetched :=
  match s.inputs with
  | [] => .ok (.run .tick s)
  | .arrive bs :: rest => .ok (.arrived ((s.setRx (s.rx ++ bs)).setInputs rest))
  | .call w :: rest =>
    match decode s.ctx w with
    | .ok i => .ok (.run i (s.setInputs rest))
    | .error e => .error (.undecodable e)

/-- tableCtx on a state: what the row's "when" column asks for (log entry 10). -/
def tableState (bs : List Byte) (s : State) : State :=
  let c := tableCtx bs s.ctx
  { s with cfg := c.cfg, mode := c.mode, buffer := c.buffer, cks := c.cks }

/-- The table word placed as the next call. -/
def placeWord (s : State) (nbits w : Nat) : State :=
  let bs := wordBytes nbits w
  (tableState bs s).setInputs (.call (tableCall bs) :: s.inputs)

end Sys2Proof.Machine
end

