-- ==== Sys2Proof/Machine/Step.lean ====
section
/-! DEFINITION. One step: the next input, or TICK when there is none. -/

namespace Sys2Proof.Machine

open Sys2Proof

/-- One step. A block whose parameters break 00_scope.md R9 is refused (93_implementation_defined.md U9). -/
def step (s : State) : Host.Outcome State Fault Refusal :=
  if s.cfg.ok then
    match fetch s with
    | .ok (.run i t) => exec i t
    | .ok (.arrived t) => .next t
    | .error r => .refused r
  else .refused .illFormedParameters

/-- s with the table word placed as the next call, and with what the word's row asks of the state
(the host's name; log entry 10). -/
def State.withFetchWord (s : State) (nbits w : Nat) : State := placeWord s nbits w

end Sys2Proof.Machine
end

