-- ==== Sys2Proof/Safety.lean ====
section
/-! DEFINITION. What holds in every state of a run: the invariants of 10_state.md R38 and the place of
`pending` between two steps (44_tick.md R192 to R196), and what it means for a block never to halt
(60_exceptions.md R217). R28 holds by the registers' width. -/

namespace Sys2Proof.Safety

open Sys2Proof Sys2Proof.Machine

/-- The running checksum of the buffered bytes in each mode of the checksummed dialect (10_state.md R38). -/
def checksumAgrees (s : State) : Prop :=
  match s.mode with
  | .seekingStart => True
  | .accumulating => s.cks = START ^^^ xorAll s.buffer
  | .seekingChecksum => s.cks = START ^^^ xorAll s.buffer ^^^ END

/-- last_sequence and relay are None together, and otherwise carry the same sequence byte (10_state.md R38). -/
def relayAgrees (s : State) : Prop :=
  s.lastSequence = s.relay.map Frame.sequence

/-- Between steps pending is empty or holds a set command (44_tick.md R194 to R196). -/
def pendingHeld (s : State) : Prop :=
  match s.pending with
  | none => True
  | some (.command sel _) => isSetCommand sel = true ∧ s.cfg.dialect = .simple
  | some (.unknown _) => False
  | some (.frame _) => False
  | some .frameTooLong => False
  | some .checksumError => False

/-- The state invariant: well-formed parameters (00_scope.md R9), the decoder invariants (10_state.md
R38), and pendingHeld. -/
structure BlockInv (s : State) : Prop where
  params : s.cfg.ok = true
  bounded : Memory.wf s = true
  seekingEmpty : s.mode = .seekingStart → s.buffer = []
  simpleMode : s.cfg.dialect = .simple → s.mode ≠ .seekingChecksum
  simpleRelay : s.cfg.dialect = .simple → s.lastSequence = none ∧ s.relay = none
  checksum : s.cfg.dialect = .checksummed → checksumAgrees s
  relayed : relayAgrees s
  held : pendingHeld s

/-- At most one actuator is away from its target (44_tick.md R199). -/
def atMostOneRamping (s : State) : Prop := s.atTarget .fan = true ∨ s.atTarget .pump = true

/-- The block halts in no way: the step answers a next state (60_exceptions.md R217). -/
def Runs (o : Host.Outcome State Fault Refusal) : Prop := ∃ t, o = .next t

/-- n calls of ADVANCE(a) in a row (43_ramp.md R183, R185). -/
def rampFor (a : Actuator) : Nat → State → State
  | 0, s => s
  | n + 1, s => rampFor a n (advance a s).1

/-- The distance |target - current| of an actuator (43_ramp.md R183). -/
def distance (s : State) (a : Actuator) : Nat :=
  (s.target a).toNat - (s.current a).toNat + ((s.current a).toNat - (s.target a).toNat)

/-- n ticks in a row (44_tick.md R200). -/
def tickFor : Nat → State → Option State
  | 0, s => some s
  | n + 1, s =>
    match exec .tick s with
    | .next t => tickFor n t
    | .fault _ => none
    | .refused _ => none

/-- How many more ADVANCE steps the slower actuator needs. -/
def ticksToSettle (s : State) : Nat := max (distance s .fan) (distance s .pump)

/-- The ownership table of 10_state.md R29 over the instructions: who may write the decoder's elements.
TICK writes them through FEED, a frame through the FEED calls it is made of. -/
def mayWriteDecoder : Instr → Bool
  | .feedSStart => true
  | .feedSDiscard _ => true
  | .feedSEnd => true
  | .feedSOverflow _ => true
  | .feedSAppend _ => true
  | .feedCStart => true
  | .feedCDiscard _ => true
  | .feedCEnd => true
  | .feedCOverflow _ => true
  | .feedCAppend _ => true
  | .feedCCksMismatch _ => true
  | .feedCCksShort _ => true
  | .feedCCksDuplicate _ => true
  | .feedCCksAccept _ => true
  | .f _ => false
  | .p _ => false
  | .q _ => false
  | .unknown _ => false
  | .seqRepeat _ _ => true
  | .seqNew _ _ => true
  | .termEnd => false
  | .termAck => false
  | .replyAccepted _ _ => false
  | .replyRejected _ _ => false
  | .replyQuery => false
  | .sframe _ => true
  | .cframe _ _ _ _ => true
  | .feedS _ => true
  | .feedC _ => true
  | .encodeC _ _ _ => false
  | .dispatch _ _ => false
  | .advance _ => false
  | .tick => true
  | .reset => true

/-- pending: TICK and RESET only (10_state.md R29). -/
def mayWritePending (i : Instr) : Bool := i == .tick || i == .reset

/-- target[a]: DISPATCH (here with its commands F and P and the reply of its case accepted), by itself or in
TICK, and RESET (10_state.md R29; log entry 14). -/
def mayWriteTarget (a : Actuator) : Instr → Bool
  | .f _ => a == .fan
  | .p _ => a == .pump
  | .replyAccepted b _ => b == a
  | .dispatch sel _ => sel == a.selector
  | .tick => true
  | .reset => true
  | _ => false

/-- current[a]: ADVANCE(a), by itself or in TICK, and RESET (10_state.md R29). -/
def mayWriteCurrent (a : Actuator) : Instr → Bool
  | .advance b => b == a
  | .tick => true
  | .reset => true
  | _ => false

/-- The forms of a direct DISPATCH (42_dispatcher.md R150): the operation, its commands, and the rows of its
replies (log entry 14). -/
def isDispatch : Instr → Bool
  | .f _ => true
  | .p _ => true
  | .q _ => true
  | .replyAccepted _ _ => true
  | .replyRejected _ _ => true
  | .replyQuery => true
  | .dispatch _ _ => true
  | _ => false

/-- One whole reply of a block, in one of the three forms of 30_encoding.md R80. -/
def IsReply (s : State) (r : List Byte) : Prop :=
  (∃ a v, r = acceptedReply s.cfg.replyTerm a v) ∨
    (∃ a args, rejectable args = true ∧ r = rejectedReply s.cfg.replyTerm a args) ∨
    r = queryReply s.cfg s.currentFan s.currentPump

/-- The decoder's elements (10_state.md R20, R29). -/
def sameDecoder (s t : State) : Prop :=
  t.mode = s.mode ∧ t.buffer = s.buffer ∧ t.cks = s.cks ∧ t.lastSequence = s.lastSequence ∧
    t.relay = s.relay

/-- The RXBYTE rows. -/
def isByteRow (i : Instr) : Bool := (encode Ctx.reference i).format == .rxByte

/-- The feed results among the values returned. -/
def feedResults (rs : List (Option FrameResult)) : List ReturnValue := rs.map ReturnValue.feed

/-- How FEED answers a list of bytes that ends in one result: None for every byte but the last. -/
def lastOnly (n : Nat) (r : Option FrameResult) : List ReturnValue :=
  feedResults (List.replicate n none ++ [r])

end Sys2Proof.Safety
end

