-- ==== Sys2Proof/Certificates/Slice0/Obligations.lean ====
section
/-! DEFINITION. The statements for the provers. Each docstring names the rules of spec/ it rests on; where
a clause is the spec's own decision (92_eei_decisions.md) or this model's own, it says so. In every
statement the field `returns` is the record of the values that directly called operations return
(10_state.md R37 (4); log entry 4). -/

open Sys2Proof Sys2Proof.Machine Sys2Proof.Safety

/-! ## Words -/

/-- Decoding the word of an instruction gives it back, every operand at every value the encoding
admits, in every context whose "when" column selects its row (30_encoding.md R70 to R87). The words of the
EVENT rows (FEED_S, FEED_C, ENCODE_C, DISPATCH, ADVANCE, TICK, RESET), to which R86 gives no bits, are the
model's own: the list of the operand bytes, the event named by the format (log entry 11, DESIGN CHOICE). -/
def Obligations.DecodeOfEncodeIsIdentity : Prop :=
  ∀ (c : Ctx) (i : Instr), i.wf = true → i.selected c = true → decode c (encode c i) = .ok i

/-- Every word that decodes is the word of the instruction it decodes to, which is well-formed and
selected: no word has two readings in the format it is called in (30_encoding.md R70 to R87). The words of
the EVENT formats exist by the model's own layout of the operand bytes alone, since R86 selects an event by no
bits (log entry 11, DESIGN CHOICE). -/
def Obligations.EncodeOfDecodeIsIdentity : Prop :=
  ∀ (c : Ctx) (w : Call) (i : Instr), decode c w = .ok i →
    encode c i = w ∧ i.wf = true ∧ i.selected c = true

/-- A few words written out from the spec's encodings (30_encoding.md R73, R76, R81, R72, R75; the bytes
of V-S2, V-C1, V-D1 and V-D15 in 95_test_vectors.md). -/
def Obligations.WordsDecodeAsWritten : Prop :=
  decode Ctx.reference ⟨.rxByte, [0x02]⟩ = .ok .feedSStart ∧
  decode { Ctx.reference with mode := .accumulating } ⟨.rxByte, [0x03]⟩ = .ok .feedSEnd ∧
  decode Ctx.reference ⟨.selector, [0x46, 0x31, 0x32, 0x30]⟩ = .ok (.f [0x31, 0x32, 0x30]) ∧
  decode Ctx.reference ⟨.selector, [0x66, 0x31]⟩ = .ok (.unknown [0x66, 0x31]) ∧
  decode Ctx.reference ⟨.seqByte, [0xF9]⟩ = .ok (.seqRepeat 0xF 1) ∧
  decode Ctx.reference ⟨.seqByte, [0x32]⟩ = .ok (.seqNew 0x3 2) ∧
  decode Ctx.reference ⟨.replyTerm, [0x06]⟩ = .ok .termAck ∧
  decode Ctx.reference ⟨.reply, [0x02, 0x46, 0x31, 0x32, 0x30, 0x03]⟩ = .ok (.replyAccepted .fan 120) ∧
  decode { Ctx.reference with fan := 50 } ⟨.reply, [0x02, 0x51, 0x35, 0x30, 0x2C, 0x30, 0x2C, 0x3F, 0x03]⟩ =
    .ok .replyQuery ∧
  decode Ctx.reference ⟨.frame, [0x02, 0x46, 0x31, 0x32, 0x30, 0x03]⟩ =
    .ok (.sframe [0x46, 0x31, 0x32, 0x30]) ∧
  decode { Ctx.reference with cfg := { Config.reference with dialect := .checksummed } }
    ⟨.frame, [0xFF, 0xFF, 0x02, 0x31, 0x31, 0x41, 0x31, 0x30, 0x30, 0x30, 0x52, 0x03, 0x13]⟩ =
    .ok (.cframe 2 0x31 0x31 [0x41, 0x31, 0x30, 0x30, 0x30, 0x52])

/-- A received byte matches exactly one RXBYTE row, but for the mode the simple dialect never reaches
(30_encoding.md R86; 40_decoder_simple.md R100, R110, R112; 41_decoder_checksummed.md R120, R139). -/
def Obligations.OneRowPerReceivedByte : Prop :=
  ∀ (c : Ctx) (b : Byte), (c.cfg.dialect = .simple → c.mode ≠ .seekingChecksum) →
    ∃ r, (rxRows c b).filter (fun x => x.1) = [r] ∧ decode c ⟨.rxByte, [b]⟩ = .ok r.2

/-- parse_dec and dec as 00_scope.md R13 writes them (the grammar is the spec's decision D19, the
rendering D23): digits only, the sum of the digits by their places, and the shortest spelling. -/
def Obligations.DecimalTextRoundTrip : Prop :=
  (∀ bs : List Byte, bs ≠ [] → (∀ b ∈ bs, 0x30 ≤ b.toNat ∧ b.toNat ≤ 0x39) →
    parseDec bs =
      some (∑ k : Fin bs.length, ((bs.get k).toNat - 0x30) * 10 ^ (bs.length - 1 - k.val))) ∧
  (∀ bs : List Byte, (bs = [] ∨ ∃ b ∈ bs, ¬(0x30 ≤ b.toNat ∧ b.toNat ≤ 0x39)) → parseDec bs = none) ∧
  (∀ v : Level, parseDec (dec v) = some v.toNat) ∧
  (∀ (v : Level) (bs : List Byte), parseDec bs = some v.toNat →
    (dec v).length ≤ bs.length ∧ (bs.length = (dec v).length → bs = dec v))

/-! ## Steps -/

/-- One step runs the instruction that the next called word decodes to; with nothing called the control
loop runs TICK, and arriving bytes join the byte source (44_tick.md R190; the queue of inputs is the
model's own, log entry 2, and so is the word by which an operation is called, log entry 11). A block
whose parameters break 00_scope.md R9 is refused (93_implementation_defined.md U9; log entry 8). -/
def Obligations.StepRunsDecodedInstruction : Prop :=
  ∀ s : State,
    (s.cfg.ok = false → step s = .refused .illFormedParameters) ∧
    (s.cfg.ok = true →
      (∀ w rest i, s.inputs = .call w :: rest → decode s.ctx w = .ok i →
        step s = exec i { s with inputs := rest }) ∧
      (∀ w rest e, s.inputs = .call w :: rest → decode s.ctx w = .error e →
        step s = .refused (.undecodable e)) ∧
      (∀ bs rest, s.inputs = .arrive bs :: rest →
        step s = .next { s with rx := s.rx ++ bs, inputs := rest }) ∧
      (s.inputs = [] → step s = exec .tick s))

/-- A table word placed by withFetchWord is what the next step runs (the model's own reading of a word
without its format, log entry 10). -/
def Obligations.PlacedTableWordRuns : Prop :=
  ∀ (s : State) (w : Nat), (s.withFetchWord 8 w).cfg.ok = true →
    ∃ i, decodeTableWord 8 w = some i ∧
      step (s.withFetchWord 8 w) = exec i { s.withFetchWord 8 w with inputs := s.inputs }

/-- Every step keeps the invariants of 10_state.md R38 and the place of pending (44_tick.md R194 to
R196), from every state that has them. -/
def Obligations.StepKeepsInvariant : Prop :=
  ∀ s t : State, BlockInv s → step s = .next t → BlockInv t

/-- The reset state of every well-formed block has the invariants; its values are 10_state.md R40's (the
spec's decision D31). -/
def Obligations.ResetHasInvariant : Prop :=
  ∀ c : Config, c.ok = true → BlockInv (State.resetOf c)

/-- The control loop never stops: from a state with the invariants and with no called operation, any
number of steps answers a next state (60_exceptions.md R217; 44_tick.md R201). -/
def Obligations.ControlLoopNeverStops : Prop :=
  ∀ (s : State) (n : Nat), BlockInv s → s.inputs = [] →
    ∃ t, Host.Core.run Sys2Proof.core n s = .next t ∧ BlockInv t ∧ t.inputs = []

/-- The ownership table: the decoder's elements, pending, the targets and the currents change only by
the operations 10_state.md R29 names. That F, P and REPLY.ACCEPTED by themselves are a direct DISPATCH is the
model's choice (log entry 14, DESIGN CHOICE). -/
def Obligations.OnlyOwnersWrite : Prop :=
  ∀ (i : Instr) (s t : State), exec i s = .next t →
    (mayWriteDecoder i = false → sameDecoder s t) ∧
    (mayWritePending i = false → t.pending = s.pending) ∧
    (∀ a, mayWriteTarget a i = false → t.target a = s.target a) ∧
    (∀ a, mayWriteCurrent a i = false → t.current a = s.current a)

/-- No operation changes the static parameters, and what has been written to a port stays written
(10_state.md R35, R37; 20_memory.md R60). -/
def Obligations.ParametersStayAndHistoriesGrow : Prop :=
  ∀ s t : State, step s = .next t →
    t.cfg = s.cfg ∧ s.tx <+: t.tx ∧ s.acts <+: t.acts ∧ s.results <+: t.results ∧
      s.ramps <+: t.ramps ∧ s.returns <+: t.returns

/-- An RXBYTE row runs exactly where its "when" holds and is refused by name elsewhere (30_encoding.md
R86; the refusal is the model's, log entry 5). -/
def Obligations.ByteRowRunsIffSelected : Prop :=
  ∀ (i : Instr) (s : State), isByteRow i = true → i.wf = true →
    (i.selected s.ctx = true → ∃ t, exec i s = .next t) ∧
    (i.selected s.ctx = false → exec i s = .refused .rowNotSelected)

/-! ## FEED_S -/

/-- FEED_S.DISCARD (40_decoder_simple.md R101). -/
def Obligations.SimpleDiscardLeavesState : Prop :=
  ∀ (s : State) (b : Byte), s.cfg.dialect = .simple → s.mode = .seekingStart → b ≠ 0x02 →
    exec (.feedSDiscard b) s = .next { s with returns := s.returns ++ [.feed none] }

/-- FEED_S.START (40_decoder_simple.md R102). -/
def Obligations.SimpleStartOpensFrame : Prop :=
  ∀ s : State, s.cfg.dialect = .simple → s.mode = .seekingStart →
    exec .feedSStart s = .next { s with
      mode := .accumulating, buffer := [], returns := s.returns ++ [.feed none] }

/-- FEED_S.END on a buffer whose first byte is a recognised selector (40_decoder_simple.md R106). -/
def Obligations.SimpleEndYieldsCommand : Prop :=
  ∀ (s : State) (b : Byte) (sel : Selector) (args : List Byte),
    s.cfg.dialect = .simple → s.mode = .accumulating → s.buffer = b :: args →
    (b = 0x46 ∧ sel = .f ∨ b = 0x50 ∧ sel = .p ∨ b = 0x51 ∧ sel = .q) →
    exec .feedSEnd s = .next { s with
      mode := .seekingStart, buffer := [],
      returns := s.returns ++ [.feed (some (.command sel args))] }

/-- FEED_S.END on any other buffer, the empty one included: the whole buffer is reported unknown
(40_decoder_simple.md R107, by the spec's decisions D6 and D8). -/
def Obligations.SimpleEndYieldsUnknown : Prop :=
  ∀ s : State, s.cfg.dialect = .simple → s.mode = .accumulating →
    (∀ b args, s.buffer = b :: args → b ≠ 0x46 ∧ b ≠ 0x50 ∧ b ≠ 0x51) →
    exec .feedSEnd s = .next { s with
      mode := .seekingStart, buffer := [],
      returns := s.returns ++ [.feed (some (.unknown s.buffer))] }

/-- FEED_S.APPEND: the byte is stored at index len(buffer), every other index reads as before
(40_decoder_simple.md R104; 20_memory.md R53). -/
def Obligations.SimpleAppendStoresByte : Prop :=
  ∀ (s : State) (b : Byte), s.cfg.dialect = .simple → s.mode = .accumulating → b ≠ 0x03 →
    s.buffer.length < s.cfg.maxFrameLen →
    ∃ t, exec (.feedSAppend b) s = .next t ∧
      t = { s with buffer := s.buffer ++ [b], returns := s.returns ++ [.feed none] } ∧
      t.memRead s.buffer.length = some b ∧
      ∀ k, k ≠ s.buffer.length → t.memRead k = s.memRead k

/-- FEED_S.OVERFLOW: FrameTooLong, nothing of the frame is kept, the byte is consumed (40_decoder_simple.md
section 3; 60_exceptions.md section 1; that the byte is consumed is the spec's decision D4). -/
def Obligations.SimpleOverflowRaises : Prop :=
  ∀ (s : State) (b : Byte), s.cfg.dialect = .simple → s.mode = .accumulating → b ≠ 0x03 →
    s.buffer.length = s.cfg.maxFrameLen →
    exec (.feedSOverflow b) s = .next { s with
      mode := .seekingStart, buffer := [], returns := s.returns ++ [.feed (some .frameTooLong)] }

/-- FEED_S is total outside the mode the dialect never reaches, touches only mode and buffer, and does
what the row its byte selects does (40_decoder_simple.md R100, R112). -/
def Obligations.FeedSTotalAndOnlyDecoder : Prop :=
  ∀ (s : State) (b : Byte), s.cfg.dialect = .simple → s.mode ≠ .seekingChecksum →
    ∃ t i, exec (.feedS b) s = .next t ∧
      t = { s with mode := t.mode, buffer := t.buffer, returns := t.returns } ∧
      decode s.ctx ⟨.rxByte, [b]⟩ = .ok i ∧ exec i s = .next t

/-- Where FEED_S, FEED_C, SFRAME and CFRAME are refused. The mode no simple block reaches is refused as
40_decoder_simple.md R110 lets a model do (log entry 8). That an operation of the other dialect is refused
is the model's own reading (log entry 6, DEDUCED): the spec gives it no meaning and names no refusal for
it. SFRAME and CFRAME as instructions are log entry 13's. -/
def Obligations.FeedRefusals : Prop :=
  ∀ (s : State) (b : Byte) (body : List Byte) (n : Nat) (a q : Byte) (pl : List Byte),
    (s.cfg.dialect = .simple → s.mode = .seekingChecksum →
      exec (.feedS b) s = .refused .checksumModeInSimple ∧
      exec (.sframe body) s = .refused .checksumModeInSimple) ∧
    (s.cfg.dialect = .checksummed →
      exec (.feedS b) s = .refused .otherDialect ∧ exec (.sframe body) s = .refused .otherDialect) ∧
    (s.cfg.dialect = .simple →
      exec (.feedC b) s = .refused .otherDialect ∧ exec (.cframe n a q pl) s = .refused .otherDialect)

/-- A command or an unknown frame is surfaced only by an END that follows a START, and it holds exactly
the bytes between them: nothing received before that START (40_decoder_simple.md R111). A decoder that
starts inside a frame has received that frame's START and the bytes in its buffer. -/
def Obligations.SurfacedOnlyBetweenStartAndEnd : Prop :=
  ∀ (s t : State) (bs opened : List Byte), s.cfg.dialect = .simple →
    (s.mode = .seekingStart ∧ opened = [] ∨
      s.mode = .accumulating ∧ opened = [0x02] ++ s.buffer) →
    feedAll bs s = .ok t →
    ∃ rs : List (Option FrameResult), t.returns = s.returns ++ feedResults rs ∧ rs.length = bs.length ∧
      ∀ k r, rs[k]? = some (some r) → r ≠ .frameTooLong →
        ∃ before body,
          opened ++ bs.take (k + 1) = before ++ [0x02] ++ body ++ [0x03] ∧ r = classify body

/-- Fed from SeekingStart, a frame that fits the bound gives None for every byte but END, and for END
exactly the command with the bytes after the selector, or the unknown frame (40_decoder_simple.md R108,
derived there; D6, D8 for the unknown frame). That SFRAME is an instruction which feeds the frame's bytes
one by one, and runs in both modes of the simple dialect, is the model's own (log entry 13, DESIGN
CHOICE). -/
def Obligations.SimpleFrameIsDecodedExactly : Prop :=
  ∀ (s : State) (body : List Byte), s.cfg.dialect = .simple → s.mode ≠ .seekingChecksum →
    (∃ t, exec (.sframe body) s = .next t) ∧
    (s.mode = .seekingStart → (∀ b ∈ body, b ≠ 0x03) → body.length ≤ s.cfg.maxFrameLen →
      exec (.sframe body) s = .next { s with
        buffer := []
        returns := s.returns ++ lastOnly (body.length + 1) (some (classify body)) }) ∧
    (∀ (sel : Selector) (args : List Byte), classify (sel.byte :: args) = .command sel args) ∧
    (isUnknown body = true → classify body = .unknown body)

/-- A frame that exceeds the bound by k + 1 bytes surfaces no data: FrameTooLong at the byte that does
not fit; the tail, with its END, is then received from SeekingStart like any other bytes, and gives None
throughout when no START is in it (40_decoder_simple.md section 3, 70_reset_and_hazards.md section 3;
decision D4). That SFRAME runs on an over-long body is the model's own (log entry 13, DESIGN CHOICE). -/
def Obligations.OverlongSimpleFrameSurfacesNothing : Prop :=
  ∀ (s : State) (body : List Byte) (k : Nat), s.cfg.dialect = .simple → s.mode = .seekingStart →
    (∀ b ∈ body, b ≠ 0x03) → body.length = s.cfg.maxFrameLen + 1 + k →
    ∃ u tail, u = { s with
        buffer := []
        returns := s.returns ++ lastOnly (s.cfg.maxFrameLen + 1) (some .frameTooLong) } ∧
      tail = body.drop (s.cfg.maxFrameLen + 1) ∧
      exec (.sframe body) s = receive .simple (tail ++ [0x03]) u ∧
      ((∀ b ∈ tail, b ≠ 0x02) →
        exec (.sframe body) s = .next { u with
          returns := u.returns ++ feedResults (List.replicate (k + 1) none) })

/-! ## FEED_C and ENCODE_C -/

/-- FEED_C.DISCARD (41_decoder_checksummed.md R121). -/
def Obligations.CheckedDiscardLeavesState : Prop :=
  ∀ (s : State) (b : Byte), s.cfg.dialect = .checksummed → s.mode = .seekingStart → b ≠ 0x02 →
    exec (.feedCDiscard b) s = .next { s with returns := s.returns ++ [.feed none] }

/-- FEED_C.START: the running checksum is seeded with START (41_decoder_checksummed.md R122). -/
def Obligations.CheckedStartSeedsChecksum : Prop :=
  ∀ s : State, s.cfg.dialect = .checksummed → s.mode = .seekingStart →
    exec .feedCStart s = .next { s with
      mode := .accumulating, buffer := [], cks := 0x02, returns := s.returns ++ [.feed none] }

/-- FEED_C.APPEND: stored and folded into the checksum, START and SYNC bytes included
(41_decoder_checksummed.md section 3; that those two are data is the spec's decisions D5 and D12). -/
def Obligations.CheckedAppendFoldsByte : Prop :=
  ∀ (s : State) (b : Byte), s.cfg.dialect = .checksummed → s.mode = .accumulating → b ≠ 0x03 →
    s.buffer.length < s.cfg.maxFrameLen →
    ∃ t, exec (.feedCAppend b) s = .next t ∧
      t = { s with
        buffer := s.buffer ++ [b], cks := s.cks ^^^ b, returns := s.returns ++ [.feed none] } ∧
      t.memRead s.buffer.length = some b ∧
      ∀ k, k ≠ s.buffer.length → t.memRead k = s.memRead k

/-- FEED_C.END: END enters the checksum, the buffer stays, the checksum byte is awaited
(41_decoder_checksummed.md R124). -/
def Obligations.CheckedEndAwaitsChecksum : Prop :=
  ∀ s : State, s.cfg.dialect = .checksummed → s.mode = .accumulating →
    exec .feedCEnd s = .next { s with
      mode := .seekingChecksum, cks := s.cks ^^^ 0x03, returns := s.returns ++ [.feed none] }

/-- FEED_C.OVERFLOW (41_decoder_checksummed.md section 3; decision D4 for the consumed byte; cks is dead
and left as it is). -/
def Obligations.CheckedOverflowRaises : Prop :=
  ∀ (s : State) (b : Byte), s.cfg.dialect = .checksummed → s.mode = .accumulating → b ≠ 0x03 →
    s.buffer.length = s.cfg.maxFrameLen →
    exec (.feedCOverflow b) s = .next { s with
      mode := .seekingStart, buffer := [], returns := s.returns ++ [.feed (some .frameTooLong)] }

/-- FEED_C.CKS_MISMATCH: ChecksumError, before any look at the buffer; only mode and buffer change
(41_decoder_checksummed.md R126; 60_exceptions.md R212). -/
def Obligations.ChecksumMismatchRaises : Prop :=
  ∀ (s : State) (b : Byte), s.cfg.dialect = .checksummed → s.mode = .seekingChecksum → b ≠ s.cks →
    exec (.feedCCksMismatch b) s = .next { s with
      mode := .seekingStart, buffer := [], returns := s.returns ++ [.feed (some .checksumError)] }

/-- FEED_C.CKS_SHORT (41_decoder_checksummed.md section 4, by the spec's decision D14; cks left as it is
by D18). -/
def Obligations.ShortFrameIsUnknown : Prop :=
  ∀ s : State, s.cfg.dialect = .checksummed → s.mode = .seekingChecksum → s.buffer.length < 2 →
    exec (.feedCCksShort s.cks) s = .next { s with
      mode := .seekingStart, buffer := [], returns := s.returns ++ [.feed (some (.unknown s.buffer))] }

/-- FEED_C.CKS_DUPLICATE, and SEQ.REPEAT with the last number: silently discarded, whatever the address,
the payload and bits 7 to 4 of the sequence byte (41_decoder_checksummed.md section 4, decisions D10,
D17, D18). That SEQ.REPEAT by itself judges the buffered frame, with no checksum byte compared, is the
model's own reading of the row (log entry 12, DESIGN CHOICE). -/
def Obligations.DuplicateIsSilentlyDiscarded : Prop :=
  ∀ (s : State) (address : Byte) (upper last : BitVec 4) (flag : Bool) (number : BitVec 3)
    (payload : List Byte),
    s.cfg.dialect = .checksummed → s.mode = .seekingChecksum →
    s.buffer = address :: seqByte upper true number :: payload →
    s.lastSequence = some (seqByte last flag number) →
    exec (.feedCCksDuplicate s.cks) s =
      .next { s with mode := .seekingStart, buffer := [], returns := s.returns ++ [.feed none] } ∧
    exec (.seqRepeat upper number) s =
      .next { s with mode := .seekingStart, buffer := [], returns := s.returns ++ [.feed none] }

/-- FEED_C.CKS_ACCEPT, and the SEQBYTE rows, on a frame that is no duplicate: flag clear, or another number,
or nothing accepted yet (41_decoder_checksummed.md section 4, decisions D13, D18). That SEQ.REPEAT and
SEQ.NEW by themselves judge the buffered frame, with no checksum byte compared, is the model's own reading
of the rows (log entry 12, DESIGN CHOICE). -/
def Obligations.NewFrameIsAccepted : Prop :=
  ∀ (s : State) (address q : Byte) (payload : List Byte),
    s.cfg.dialect = .checksummed → s.mode = .seekingChecksum → s.buffer = address :: q :: payload →
    (q.getLsbD 3 = false ∨ s.lastSequence = none ∨
      ∃ l, s.lastSequence = some l ∧ l.toNat % 8 ≠ q.toNat % 8) →
    ∃ t, t = { s with
        mode := .seekingStart, buffer := [], lastSequence := some q,
        relay := some ⟨address, q, payload⟩,
        returns := s.returns ++ [.feed (some (.frame ⟨address, q, payload⟩))] } ∧
      exec (.feedCCksAccept s.cks) s = .next t ∧
      (∀ upper number, q = seqByte upper true number → exec (.seqRepeat upper number) s = .next t) ∧
      (∀ upper number, q = seqByte upper false number → exec (.seqNew upper number) s = .next t)

/-- The SEQBYTE rows are refused where the buffer holds no verified frame with that sequence byte (the
model's own, log entry 12). -/
def Obligations.SequenceRowsNeedVerifiedFrame : Prop :=
  ∀ (s : State) (upper : BitVec 4) (number : BitVec 3),
    (s.cfg.dialect = .simple ∨ s.mode ≠ .seekingChecksum ∨ s.buffer.length < 2 →
      exec (.seqRepeat upper number) s = .refused .rowNotSelected ∧
      exec (.seqNew upper number) s = .refused .rowNotSelected) ∧
    (s.buffer[1]? ≠ some (seqByte upper true number) →
      exec (.seqRepeat upper number) s = .refused .rowNotSelected) ∧
    (s.buffer[1]? ≠ some (seqByte upper false number) →
      exec (.seqNew upper number) s = .refused .rowNotSelected)

/-- FEED_C is total, writes only mode, buffer, cks, last_sequence and relay, and does what the row its
byte selects does (41_decoder_checksummed.md R120, R139). -/
def Obligations.FeedCTotalAndOnlyDecoder : Prop :=
  ∀ (s : State) (b : Byte), s.cfg.dialect = .checksummed →
    ∃ t i, exec (.feedC b) s = .next t ∧
      t = { s with
        mode := t.mode, buffer := t.buffer, cks := t.cks, lastSequence := t.lastSequence,
        relay := t.relay, returns := t.returns } ∧
      decode s.ctx ⟨.rxByte, [b]⟩ = .ok i ∧ exec i s = .next t

/-- ENCODE_C returns START, address, sequence, payload, END and their exclusive-or, and touches no state
(41_decoder_checksummed.md section 6, decision D16; 30_encoding.md section 4, decision D11). That it does so
on a simple block too is the model's own (log entry 20, DESIGN CHOICE). -/
def Obligations.EncodeReturnsFrameBytes : Prop :=
  ∀ (s : State) (a q : Byte) (payload : List Byte),
    exec (.encodeC a q payload) s = .next { s with
      returns := s.returns ++ [.encoded ([0x02, a, q] ++ payload ++
        [0x03, 0x01 ^^^ a ^^^ q ^^^ xorAll payload])] }

/-- Round trip: a valid triple, behind any number of SYNC bytes, fed to a decoder in SeekingStart gives
None for every byte but the last and the frame for the last, or None there too if it is a duplicate
(41_decoder_checksummed.md section 6, derived there; the checksum's span is decision D11, the bytes in
front D12, the acceptance of a first frame D13, the cks that is left D18). That CFRAME is an instruction
which feeds the frame's bytes one by one, and runs in every mode, is the model's own (log entry 13, DESIGN
CHOICE). -/
def Obligations.EncodedFrameRoundTrip : Prop :=
  ∀ (s : State) (n : Nat) (a q : Byte) (payload : List Byte), s.cfg.dialect = .checksummed →
    (∃ t, exec (.cframe n a q payload) s = .next t) ∧
    (s.mode = .seekingStart → (∀ b ∈ a :: q :: payload, b ≠ 0x03) →
      2 + payload.length ≤ s.cfg.maxFrameLen →
      exec (.cframe n a q payload) s = .next { s with
        buffer := []
        cks := 0x01 ^^^ a ^^^ q ^^^ xorAll payload
        lastSequence := if duplicate q s.lastSequence then s.lastSequence else some q
        relay := if duplicate q s.lastSequence then s.relay else some ⟨a, q, payload⟩
        returns := s.returns ++ lastOnly (n + 4 + payload.length)
          (if duplicate q s.lastSequence then none else some (.frame ⟨a, q, payload⟩)) })

/-- Repeat idempotence: fed twice in succession, a frame with the repeat flag set that is accepted the
first time is then discarded; with the flag clear it is accepted both times; a duplicate is discarded
both times (derived from 41_decoder_checksummed.md section 7, whose quoted sentence 90_conflicts.md C3
qualifies). CFRAME as the instruction that feeds the frame is the model's own (log entry 13). -/
def Obligations.FrameAcceptedFirstTimeIsThenSuppressed : Prop :=
  ∀ (s : State) (a q : Byte) (payload : List Byte), s.cfg.dialect = .checksummed →
    s.mode = .seekingStart → (∀ b ∈ a :: q :: payload, b ≠ 0x03) →
    2 + payload.length ≤ s.cfg.maxFrameLen →
    ∃ t u, exec (.cframe 0 a q payload) s = .next t ∧ exec (.cframe 0 a q payload) t = .next u ∧
      u.returns = s.returns ++
        lastOnly (4 + payload.length)
          (if duplicate q s.lastSequence then none else some (.frame ⟨a, q, payload⟩)) ++
        lastOnly (4 + payload.length)
          (if q.getLsbD 3 then none else some (.frame ⟨a, q, payload⟩))

/-- Corruption of one address, sequence or payload byte into another byte that is not END is a
ChecksumError, which leaves everything but the dead cks as it was (41_decoder_checksummed.md section 7,
derived there; the cks that is left is decision D18). The bytes are fed one by one by direct calls. -/
def Obligations.CorruptedByteIsDetected : Prop :=
  ∀ (s : State) (front back : List Byte) (good bad : Byte), s.cfg.dialect = .checksummed →
    s.mode = .seekingStart → good ≠ bad →
    (∀ b ∈ front ++ [good] ++ back, b ≠ 0x03) → bad ≠ 0x03 →
    front.length + 1 + back.length ≤ s.cfg.maxFrameLen →
    receive .checksummed ([0x02] ++ front ++ [bad] ++ back ++ [0x03] ++
        [0x01 ^^^ xorAll (front ++ [good] ++ back)]) s = .next { s with
      buffer := []
      cks := 0x01 ^^^ xorAll (front ++ [bad] ++ back)
      returns := s.returns ++ lastOnly (front.length + back.length + 3) (some .checksumError) }

/-! ## DISPATCH and the replies -/

/-- F, P and DISPATCH of them with a value in range: the target, the reply, the status, nothing else
(42_dispatcher.md section 2; the argument grammar is the spec's decision D19, the reply D21).
That a direct DISPATCH runs on a checksummed block too is the model's own reading (log entry 7, DEDUCED);
that F and P by themselves are a direct DISPATCH is the model's choice (log entry 14, DESIGN CHOICE). -/
def Obligations.ValidSetCommandWritesTarget : Prop :=
  ∀ (s : State) (args : List Byte) (v : Nat), parseDec args = some v → v ≤ 255 →
    (∃ t, t = { s with
        targetFan := BitVec.ofNat 8 v,
        tx := s.tx ++ [0x02, 0x46] ++ dec (BitVec.ofNat 8 v) ++ [s.cfg.replyTerm.byte],
        returns := s.returns ++ [.dispatch .ok] } ∧ t.targetFan.toNat = v ∧
      exec (.f args) s = .next t ∧ exec (.dispatch .f args) s = .next t) ∧
    (∃ t, t = { s with
        targetPump := BitVec.ofNat 8 v,
        tx := s.tx ++ [0x02, 0x50] ++ dec (BitVec.ofNat 8 v) ++ [s.cfg.replyTerm.byte],
        returns := s.returns ++ [.dispatch .ok] } ∧ t.targetPump.toNat = v ∧
      exec (.p args) s = .next t ∧ exec (.dispatch .p args) s = .next t)

/-- F, P and DISPATCH of them with arguments that are no number, or a number above 255: an explicit error
reply with the arguments as received, the status that names the error, no target written, never a clamp
(42_dispatcher.md section 2; the reply's rendering is the spec's decision D20, the grammar D19).
That a direct DISPATCH runs on a checksummed block too is the model's own reading (log entry 7, DEDUCED);
that F and P by themselves are a direct DISPATCH is the model's choice (log entry 14, DESIGN CHOICE). -/
def Obligations.InvalidSetCommandIsRejected : Prop :=
  ∀ (s : State) (args : List Byte) (st : DispatchStatus),
    (parseDec args = none ∧ st = .argumentUnparseable ∨
      ∃ v, parseDec args = some v ∧ 255 < v ∧ st = .argumentOutOfRange) →
    (∃ t, t = { s with
        tx := s.tx ++ [0x02, 0x46, 0x45] ++ args ++ [s.cfg.replyTerm.byte],
        returns := s.returns ++ [.dispatch st] } ∧
      exec (.f args) s = .next t ∧ exec (.dispatch .f args) s = .next t) ∧
    (∃ t, t = { s with
        tx := s.tx ++ [0x02, 0x50, 0x45] ++ args ++ [s.cfg.replyTerm.byte],
        returns := s.returns ++ [.dispatch st] } ∧
      exec (.p args) s = .next t ∧ exec (.dispatch .p args) s = .next t)

/-- Q and DISPATCH of it: the reply carries the current levels and the sentinel; arguments are ignored
(42_dispatcher.md section 3; field order and number format are the spec's decision D23, the ignored
arguments D22).
That a direct DISPATCH runs on a checksummed block too is the model's own reading (log entry 7, DEDUCED);
that Q by itself is a direct DISPATCH is the model's choice (log entry 14, DESIGN CHOICE). -/
def Obligations.QueryReportsCurrentLevels : Prop :=
  ∀ (s : State) (args : List Byte),
    ∃ t, t = { s with
        tx := s.tx ++ [0x02, 0x51] ++ dec s.currentFan ++ [0x2C] ++ dec s.currentPump ++ [0x2C] ++
          s.cfg.tempSentinel ++ [s.cfg.replyTerm.byte],
        returns := s.returns ++ [.dispatch .queryAnswered] } ∧
      exec (.q args) s = .next t ∧ exec (.dispatch .q args) s = .next t

/-- Exactly one reply is written per DISPATCH, none by any other operation; TICK, which dispatches at most
once, writes at most one (42_dispatcher.md section 4). The two dispatcher errors write an explicit reply and
leave both targets; a query cannot fail (60_exceptions.md section 1). That a direct DISPATCH runs on a
checksummed block too is the model's own reading (log entry 7, DEDUCED); that F, P, Q and the REPLY rows by
themselves are one is its choice (log entry 14, DESIGN CHOICE). -/
def Obligations.OneReplyPerDispatchAndErrorsKeepTarget : Prop :=
  (∀ (i : Instr) (s t : State), exec i s = .next t →
    (isDispatch i = true → ∃ r, IsReply s r ∧ t.tx = s.tx ++ r) ∧
    (i = .tick → t.tx = s.tx ∨ ∃ r, IsReply s r ∧ t.tx = s.tx ++ r) ∧
    (isDispatch i = false → i ≠ .tick → t.tx = s.tx)) ∧
  ∀ (s : State) (sel : Selector) (args : List Byte),
    ∃ (t : State) (reply : List Byte) (st : DispatchStatus), exec (.dispatch sel args) s = .next t ∧
      t.tx = s.tx ++ reply ∧ reply ≠ [] ∧ t.returns = s.returns ++ [.dispatch st] ∧
      (st = .argumentUnparseable ∨ st = .argumentOutOfRange →
        t.targetFan = s.targetFan ∧ t.targetPump = s.targetPump ∧ (sel = .f ∨ sel = .p)) ∧
      (sel = .q → st = .queryAnswered)

/-- UNKNOWN: reported upstream, no reply, no register written (40_decoder_simple.md section 4, 44_tick.md
section 3, decision D26). That the row by itself is that report, outside any tick and in either dialect, is
the model's choice (log entry 14, DESIGN CHOICE), as is the refusal for bytes that are a command (log entry
5). -/
def Obligations.UnknownIsReported : Prop :=
  ∀ (s : State) (bytes : List Byte),
    ((∀ b rest, bytes = b :: rest → b ≠ 0x46 ∧ b ≠ 0x50 ∧ b ≠ 0x51) →
      exec (.unknown bytes) s = .next { s with results := s.results ++ [.reported (.unknown bytes)] }) ∧
    ((∃ b rest, bytes = b :: rest ∧ (b = 0x46 ∨ b = 0x50 ∨ b = 0x51)) →
      exec (.unknown bytes) s = .refused .rowNotSelected)

/-- The last byte of every reply is the one that REPLY_TERM names (30_encoding.md section 5). That a
terminator row by itself hands this byte back to its caller and writes nothing, in either dialect, is the
model's choice (log entry 14, DESIGN CHOICE), as is the refusal of the other row (log entry 5); that a direct
DISPATCH runs on a checksummed block too is its own reading (log entry 7, DEDUCED). -/
def Obligations.TerminatorFollowsParameter : Prop :=
  ∀ s : State,
    (s.cfg.replyTerm = .fin →
      exec .termEnd s = .next { s with returns := s.returns ++ [.encoded [0x03]] } ∧
      exec .termAck s = .refused .rowNotSelected ∧
      ∀ sel args, ∃ t front, exec (.dispatch sel args) s = .next t ∧ t.tx = s.tx ++ front ++ [0x03]) ∧
    (s.cfg.replyTerm = .ack →
      exec .termAck s = .next { s with returns := s.returns ++ [.encoded [0x06]] } ∧
      exec .termEnd s = .refused .rowNotSelected ∧
      ∀ sel args, ∃ t front, exec (.dispatch sel args) s = .next t ∧ t.tx = s.tx ++ front ++ [0x06])

/-- The three reply forms, byte by byte (30_encoding.md section 5; decisions D20, D21, D23), each the reply of
its case of DISPATCH, which it is together with (42_dispatcher.md sections 2 and 3). That a REPLY row by itself
is that case of a direct DISPATCH, in either dialect, is the model's choice (log entries 14, DESIGN CHOICE, and
7, DEDUCED), as is the refusal of REPLY.REJECTED for arguments that DISPATCH accepts (log entry 5). -/
def Obligations.ReplyFormsAreWritten : Prop :=
  ∀ (s : State) (v : Level) (args : List Byte) (st : DispatchStatus),
    exec (.replyAccepted .fan v) s = .next { s with
      targetFan := v,
      tx := s.tx ++ [0x02, 0x46] ++ dec v ++ [s.cfg.replyTerm.byte],
      returns := s.returns ++ [.dispatch .ok] } ∧
    exec (.replyAccepted .pump v) s = .next { s with
      targetPump := v,
      tx := s.tx ++ [0x02, 0x50] ++ dec v ++ [s.cfg.replyTerm.byte],
      returns := s.returns ++ [.dispatch .ok] } ∧
    ((parseDec args = none ∧ st = .argumentUnparseable ∨
        ∃ n, parseDec args = some n ∧ 255 < n ∧ st = .argumentOutOfRange) →
      exec (.replyRejected .fan args) s = .next { s with
        tx := s.tx ++ [0x02, 0x46, 0x45] ++ args ++ [s.cfg.replyTerm.byte],
        returns := s.returns ++ [.dispatch st] } ∧
      exec (.replyRejected .pump args) s = .next { s with
        tx := s.tx ++ [0x02, 0x50, 0x45] ++ args ++ [s.cfg.replyTerm.byte],
        returns := s.returns ++ [.dispatch st] }) ∧
    ((∃ n, parseDec args = some n ∧ n ≤ 255) →
      ∀ a, exec (.replyRejected a args) s = .refused .rowNotSelected) ∧
    exec .replyQuery s = .next { s with
      tx := s.tx ++ [0x02, 0x51] ++ dec s.currentFan ++ [0x2C] ++ dec s.currentPump ++ [0x2C] ++
        s.cfg.tempSentinel ++ [s.cfg.replyTerm.byte],
      returns := s.returns ++ [.dispatch .queryAnswered] }

/-! ## ADVANCE -/

/-- ADVANCE at the target: Converged, no write (43_ramp.md R181). -/
def Obligations.AdvanceAtTargetWritesNothing : Prop :=
  ∀ (s : State) (a : Actuator), s.current a = s.target a →
    exec (.advance a) s = .next { s with returns := s.returns ++ [.ramp .converged] }

/-- ADVANCE away from the target: one unit toward it, written to the output, Stepping (43_ramp.md R182). -/
def Obligations.AdvanceMovesOneUnit : Prop :=
  ∀ (s : State) (a : Actuator) (v : Level),
    (s.current a < s.target a ∧ v = s.current a + 1 ∨
      s.target a < s.current a ∧ v = s.current a - 1) →
    (a = .fan → exec (.advance a) s = .next { s with
      currentFan := v, acts := s.acts ++ [⟨.fan, v⟩], returns := s.returns ++ [.ramp .stepping] }) ∧
    (a = .pump → exec (.advance a) s = .next { s with
      currentPump := v, acts := s.acts ++ [⟨.pump, v⟩], returns := s.returns ++ [.ramp .stepping] })

/-- The two actuators are independent and ADVANCE is total: it changes only current[a], writes only
actuator a, and what it does depends only on current[a] and target[a] (43_ramp.md R187). -/
def Obligations.AdvanceIsIndependent : Prop :=
  ∀ (s s' : State) (a : Actuator), s.current a = s'.current a → s.target a = s'.target a →
    ∃ (t t' : State) (writes : List ActWrite) (st : RampStatus),
      exec (.advance a) s = .next t ∧ exec (.advance a) s' = .next t' ∧
      t.current a = t'.current a ∧ t.acts = s.acts ++ writes ∧ t'.acts = s'.acts ++ writes ∧
      (∀ w ∈ writes, w.actuator = a) ∧
      t.returns = s.returns ++ [.ramp st] ∧ t'.returns = s'.returns ++ [.ramp st] ∧
      (∀ b, b ≠ a → t.current b = s.current b) ∧
      t = { s with
        currentFan := t.currentFan, currentPump := t.currentPump, acts := t.acts,
        returns := t.returns }

/-- Monotone convergence: call by call the level moves one unit toward the target, reaches it in exactly
|target - current| calls, never overshoots, and stays; Stepping on each of those calls and Converged
after (43_ramp.md R183 to R185, first sentences; R184 and R183 are derived there). -/
def Obligations.RampConvergesMonotonically : Prop :=
  ∀ (s : State) (a : Actuator) (k : Nat),
    let d := distance s a
    let t := rampFor a k s
    t.target a = s.target a ∧
    (s.current a ≤ s.target a → (t.current a).toNat = (s.current a).toNat + min k d) ∧
    (s.target a ≤ s.current a → (t.current a).toNat = (s.current a).toNat - min k d) ∧
    (t.current a = t.target a ↔ d ≤ k) ∧
    ((advance a t).2 = .stepping ↔ k < d) ∧
    t.acts.length = s.acts.length + min k d

/-! ## TICK and RESET -/

/-- TICK never fails, and what its first step does: in every state with the dialect's modes it reads
n <= BURST_MAX bytes from the front of the source, none while pending is occupied; they are fed to the
decoder in order (u is the decoder after direct calls with the same bytes, rs their results); no byte before
the last gives a result, so a byte without one, a silent duplicate's last byte included, does not end the
loop; it ends only at a result, at BURST_MAX or at an empty source, and the result is then in pending.
m is the state the two later steps start from; they leave the decoder, the source, the returned values and
the inputs, and add one event and one pair of statuses (44_tick.md sections 1 to 5; decisions D28, D29). -/
def Obligations.TickRunsAndReadsBoundedBurst : Prop :=
  ∀ s : State, (s.cfg.dialect = .simple → s.mode ≠ .seekingChecksum) →
    ∃ (n : Nat) (rs : List (Option FrameResult)) (u m t : State),
      n ≤ s.cfg.burstMax ∧ n ≤ s.rx.length ∧ (s.pending ≠ none → n = 0) ∧
      feedAll (s.rx.take n) s = .ok u ∧ rs.length = n ∧ u.returns = s.returns ++ feedResults rs ∧
      (∀ r ∈ rs.dropLast, r = none) ∧
      (s.pending = none → n = s.cfg.burstMax ∨ n = s.rx.length ∨ ∃ r, rs.getLast? = some (some r)) ∧
      m = { u with
        rx := s.rx.drop n, returns := s.returns, pending := s.pending.or rs.getLast?.join } ∧
      ingest s.cfg.burstMax s = .ok m ∧ exec .tick s = .next t ∧ sameDecoder m t ∧ t.rx = m.rx ∧
      t.returns = s.returns ∧ t.inputs = s.inputs ∧
      ∃ (ev : TickEvent) (f p : RampStatus), t.results = s.results ++ [ev] ∧ t.ramps = s.ramps ++ [(f, p)]

/-- TICK with nothing pending after its reads (m is the state they leave): NoEvent and one ADVANCE of each
actuator, fan first; with nothing to read, nothing else at all (44_tick.md sections 2 to 4; the order of the
two is the spec's decision D30). -/
def Obligations.IdleTickOnlyAdvances : Prop :=
  ∀ s m : State, ingest s.cfg.burstMax s = .ok m →
    (m.pending = none →
      exec .tick s = .next { (advance .pump (advance .fan m).1).1 with
        results := s.results ++ [.noEvent]
        ramps := s.ramps ++ [((advance .fan m).2, (advance .pump (advance .fan m).1).2)] }) ∧
    (s.rx = [] → m = s)

/-- The hold: a set command in pending after the tick's reads (m is the state they leave), read just now or
held before, is not dispatched while an actuator ramps: no reply is written, no target changes, it stays in
pending; both actuators advance. While it is held no byte is read (44_tick.md sections 2 and 3, decisions
D27, D28). -/
def Obligations.SetCommandIsHeldWhileRamping : Prop :=
  ∀ (s m : State) (sel : Selector) (args : List Byte), ingest s.cfg.burstMax s = .ok m →
    m.pending = some (.command sel args) → (sel = .f ∨ sel = .p) →
    (s.currentFan ≠ s.targetFan ∨ s.currentPump ≠ s.targetPump) →
    exec .tick s = .next { (advance .pump (advance .fan m).1).1 with
      results := s.results ++ [.held]
      ramps := s.ramps ++ [((advance .fan m).2, (advance .pump (advance .fan m).1).2)] } ∧
    (s.pending ≠ none → m = s)

/-- A command in pending after the tick's reads (m is the state they leave) that is not held is dispatched in
that tick, before its advance: a query at any time, a set command when both actuators are at target
(44_tick.md sections 3 and 5, decision D27). -/
def Obligations.PendingCommandIsDispatched : Prop :=
  ∀ (s m : State) (sel : Selector) (args : List Byte), ingest s.cfg.burstMax s = .ok m →
    m.pending = some (.command sel args) →
    (sel = .q ∨ (s.currentFan = s.targetFan ∧ s.currentPump = s.targetPump)) →
    ∃ u, u = { (dispatch sel args m).1 with pending := none } ∧
      exec .tick s = .next { (advance .pump (advance .fan u).1).1 with
        results := s.results ++ [.dispatched sel args (dispatch sel args m).2]
        ramps := s.ramps ++ [((advance .fan u).2, (advance .pump (advance .fan u).1).2)] }

/-- Any other result in pending after the tick's reads (m is the state they leave) is reported in that tick,
without a reply, ramping or not (44_tick.md section 3, decision D26). -/
def Obligations.OtherResultsAreReported : Prop :=
  ∀ (s m : State) (r : FrameResult), ingest s.cfg.burstMax s = .ok m → m.pending = some r →
    (∀ sel args, r ≠ .command sel args) →
    ∃ u, u = { m with pending := none } ∧
      exec .tick s = .next { (advance .pump (advance .fan u).1).1 with
        results := s.results ++ [.reported r]
        ramps := s.ramps ++ [((advance .fan u).2, (advance .pump (advance .fan u).1).2)] }

/-- One tick serves a whole waiting set command, F or P: the frame's bytes, and no more, are read, the target
is written, the reply sent and the first ramp step taken in the same tick (44_tick.md sections 2 to 5, with
the spec's decisions D19 for the argument grammar, D21, D28 to D30). -/
def Obligations.TickServesWaitingSetCommand : Prop :=
  ∀ (s : State) (args rest : List Byte) (v : Nat), s.cfg.dialect = .simple → s.mode = .seekingStart →
    s.pending = none → s.currentFan = s.targetFan → s.currentPump = s.targetPump →
    args.length + 3 ≤ s.cfg.burstMax → args.length + 1 ≤ s.cfg.maxFrameLen →
    parseDec args = some v → v ≤ 255 →
    (s.rx = [0x02, 0x46] ++ args ++ [0x03] ++ rest →
      ∃ t u, u = { s with
          buffer := [], rx := rest, targetFan := BitVec.ofNat 8 v,
          tx := s.tx ++ [0x02, 0x46] ++ dec (BitVec.ofNat 8 v) ++ [s.cfg.replyTerm.byte],
          results := s.results ++ [.dispatched .f args .ok] } ∧
        exec .tick s = .next t ∧
        t = { (advance .fan u).1 with ramps := s.ramps ++ [((advance .fan u).2, .converged)] }) ∧
    (s.rx = [0x02, 0x50] ++ args ++ [0x03] ++ rest →
      ∃ t u, u = { s with
          buffer := [], rx := rest, targetPump := BitVec.ofNat 8 v,
          tx := s.tx ++ [0x02, 0x50] ++ dec (BitVec.ofNat 8 v) ++ [s.cfg.replyTerm.byte],
          results := s.results ++ [.dispatched .p args .ok] } ∧
        exec .tick s = .next t ∧
        t = { (advance .pump u).1 with ramps := s.ramps ++ [(.converged, (advance .pump u).2)] })

/-- Single outstanding command: a tick writes a target only when both actuators are at target, and keeps
it true that at most one actuator is ramping (44_tick.md R199, derived there). -/
def Obligations.TickNeverPreemptsRamp : Prop :=
  ∀ s t : State, exec .tick s = .next t →
    (t.targetFan ≠ s.targetFan ∨ t.targetPump ≠ s.targetPump →
      s.currentFan = s.targetFan ∧ s.currentPump = s.targetPump) ∧
    (atMostOneRamping s → atMostOneRamping t)

/-- Release of a hold: a held set command waits exactly until the slower ramp is over and is dispatched
by the next tick (44_tick.md R200, derived there). -/
def Obligations.HeldCommandIsReleased : Prop :=
  ∀ (s : State) (sel : Selector) (args : List Byte), s.pending = some (.command sel args) →
    (sel = .f ∨ sel = .p) →
    (∀ k ≤ ticksToSettle s, ∃ t, tickFor k s = some t ∧ t.pending = s.pending ∧ t.rx = s.rx ∧
      t.tx = s.tx ∧ t.targetFan = s.targetFan ∧ t.targetPump = s.targetPump ∧
      (t.settled = true ↔ k = ticksToSettle s)) ∧
    ∃ u st, tickFor (ticksToSettle s + 1) s = some u ∧ u.pending = none ∧
      u.results = s.results ++ List.replicate (ticksToSettle s) .held ++ [.dispatched sel args st]

/-- In the checksummed dialect no tick moves a setpoint, answers or drives an actuator
(41_decoder_checksummed.md section 5; 42_dispatcher.md section 1; decision D40). -/
def Obligations.ChecksummedTickDrivesNothing : Prop :=
  ∀ s t : State, BlockInv s → s.cfg.dialect = .checksummed → s.settled = true → exec .tick s = .next t →
    t.pending = none ∧ t.tx = s.tx ∧ t.acts = s.acts ∧ t.currentFan = s.currentFan ∧
      t.currentPump = s.currentPump ∧ t.targetFan = s.targetFan ∧ t.targetPump = s.targetPump ∧
      t.ramps = s.ramps ++ [(.converged, .converged)]

/-- RESET: every element at its reset value, no port written (70_reset_and_hazards.md section 1, decision
D32; 10_state.md section 9, decision D31). That the byte source, the histories of the ports, the waiting
inputs and the parameters stay as they are is the model's own reading (log entry 15, DEDUCED). -/
def Obligations.ResetRestoresEveryElement : Prop :=
  ∀ s : State, exec .reset s = .next { State.resetOf s.cfg with
    rx := s.rx, tx := s.tx, acts := s.acts, results := s.results, ramps := s.ramps,
    returns := s.returns, inputs := s.inputs }
end

