-- ==== Sys2Proof/Laws/State.lean ====
section
/-! SUPPORT. The small lemmas of State: what each named update leaves in each field, true by rfl, so
that no later proof unfolds a record update. -/

namespace Sys2Proof.Machine

open Sys2Proof

@[simp] theorem memAppend_cfg (s : State) (b : Byte) :
    (s.memAppend b).cfg = s.cfg := rfl
@[simp] theorem memAppend_mode (s : State) (b : Byte) :
    (s.memAppend b).mode = s.mode := rfl
@[simp] theorem memAppend_buffer (s : State) (b : Byte) :
    (s.memAppend b).buffer = s.buffer ++ [b] := rfl
@[simp] theorem memAppend_cks (s : State) (b : Byte) :
    (s.memAppend b).cks = s.cks := rfl
@[simp] theorem memAppend_lastSequence (s : State) (b : Byte) :
    (s.memAppend b).lastSequence = s.lastSequence := rfl
@[simp] theorem memAppend_pending (s : State) (b : Byte) :
    (s.memAppend b).pending = s.pending := rfl
@[simp] theorem memAppend_currentFan (s : State) (b : Byte) :
    (s.memAppend b).currentFan = s.currentFan := rfl
@[simp] theorem memAppend_currentPump (s : State) (b : Byte) :
    (s.memAppend b).currentPump = s.currentPump := rfl
@[simp] theorem memAppend_targetFan (s : State) (b : Byte) :
    (s.memAppend b).targetFan = s.targetFan := rfl
@[simp] theorem memAppend_targetPump (s : State) (b : Byte) :
    (s.memAppend b).targetPump = s.targetPump := rfl
@[simp] theorem memAppend_relay (s : State) (b : Byte) :
    (s.memAppend b).relay = s.relay := rfl
@[simp] theorem memAppend_rx (s : State) (b : Byte) :
    (s.memAppend b).rx = s.rx := rfl
@[simp] theorem memAppend_tx (s : State) (b : Byte) :
    (s.memAppend b).tx = s.tx := rfl
@[simp] theorem memAppend_acts (s : State) (b : Byte) :
    (s.memAppend b).acts = s.acts := rfl
@[simp] theorem memAppend_results (s : State) (b : Byte) :
    (s.memAppend b).results = s.results := rfl
@[simp] theorem memAppend_ramps (s : State) (b : Byte) :
    (s.memAppend b).ramps = s.ramps := rfl
@[simp] theorem memAppend_returns (s : State) (b : Byte) :
    (s.memAppend b).returns = s.returns := rfl
@[simp] theorem memAppend_inputs (s : State) (b : Byte) :
    (s.memAppend b).inputs = s.inputs := rfl

@[simp] theorem memClear_cfg (s : State) :
    (s.memClear).cfg = s.cfg := rfl
@[simp] theorem memClear_mode (s : State) :
    (s.memClear).mode = s.mode := rfl
@[simp] theorem memClear_buffer (s : State) :
    (s.memClear).buffer = [] := rfl
@[simp] theorem memClear_cks (s : State) :
    (s.memClear).cks = s.cks := rfl
@[simp] theorem memClear_lastSequence (s : State) :
    (s.memClear).lastSequence = s.lastSequence := rfl
@[simp] theorem memClear_pending (s : State) :
    (s.memClear).pending = s.pending := rfl
@[simp] theorem memClear_currentFan (s : State) :
    (s.memClear).currentFan = s.currentFan := rfl
@[simp] theorem memClear_currentPump (s : State) :
    (s.memClear).currentPump = s.currentPump := rfl
@[simp] theorem memClear_targetFan (s : State) :
    (s.memClear).targetFan = s.targetFan := rfl
@[simp] theorem memClear_targetPump (s : State) :
    (s.memClear).targetPump = s.targetPump := rfl
@[simp] theorem memClear_relay (s : State) :
    (s.memClear).relay = s.relay := rfl
@[simp] theorem memClear_rx (s : State) :
    (s.memClear).rx = s.rx := rfl
@[simp] theorem memClear_tx (s : State) :
    (s.memClear).tx = s.tx := rfl
@[simp] theorem memClear_acts (s : State) :
    (s.memClear).acts = s.acts := rfl
@[simp] theorem memClear_results (s : State) :
    (s.memClear).results = s.results := rfl
@[simp] theorem memClear_ramps (s : State) :
    (s.memClear).ramps = s.ramps := rfl
@[simp] theorem memClear_returns (s : State) :
    (s.memClear).returns = s.returns := rfl
@[simp] theorem memClear_inputs (s : State) :
    (s.memClear).inputs = s.inputs := rfl

@[simp] theorem setMode_cfg (s : State) (m : Mode) :
    (s.setMode m).cfg = s.cfg := rfl
@[simp] theorem setMode_mode (s : State) (m : Mode) :
    (s.setMode m).mode = m := rfl
@[simp] theorem setMode_buffer (s : State) (m : Mode) :
    (s.setMode m).buffer = s.buffer := rfl
@[simp] theorem setMode_cks (s : State) (m : Mode) :
    (s.setMode m).cks = s.cks := rfl
@[simp] theorem setMode_lastSequence (s : State) (m : Mode) :
    (s.setMode m).lastSequence = s.lastSequence := rfl
@[simp] theorem setMode_pending (s : State) (m : Mode) :
    (s.setMode m).pending = s.pending := rfl
@[simp] theorem setMode_currentFan (s : State) (m : Mode) :
    (s.setMode m).currentFan = s.currentFan := rfl
@[simp] theorem setMode_currentPump (s : State) (m : Mode) :
    (s.setMode m).currentPump = s.currentPump := rfl
@[simp] theorem setMode_targetFan (s : State) (m : Mode) :
    (s.setMode m).targetFan = s.targetFan := rfl
@[simp] theorem setMode_targetPump (s : State) (m : Mode) :
    (s.setMode m).targetPump = s.targetPump := rfl
@[simp] theorem setMode_relay (s : State) (m : Mode) :
    (s.setMode m).relay = s.relay := rfl
@[simp] theorem setMode_rx (s : State) (m : Mode) :
    (s.setMode m).rx = s.rx := rfl
@[simp] theorem setMode_tx (s : State) (m : Mode) :
    (s.setMode m).tx = s.tx := rfl
@[simp] theorem setMode_acts (s : State) (m : Mode) :
    (s.setMode m).acts = s.acts := rfl
@[simp] theorem setMode_results (s : State) (m : Mode) :
    (s.setMode m).results = s.results := rfl
@[simp] theorem setMode_ramps (s : State) (m : Mode) :
    (s.setMode m).ramps = s.ramps := rfl
@[simp] theorem setMode_returns (s : State) (m : Mode) :
    (s.setMode m).returns = s.returns := rfl
@[simp] theorem setMode_inputs (s : State) (m : Mode) :
    (s.setMode m).inputs = s.inputs := rfl

@[simp] theorem setCks_cfg (s : State) (x : Byte) :
    (s.setCks x).cfg = s.cfg := rfl
@[simp] theorem setCks_mode (s : State) (x : Byte) :
    (s.setCks x).mode = s.mode := rfl
@[simp] theorem setCks_buffer (s : State) (x : Byte) :
    (s.setCks x).buffer = s.buffer := rfl
@[simp] theorem setCks_cks (s : State) (x : Byte) :
    (s.setCks x).cks = x := rfl
@[simp] theorem setCks_lastSequence (s : State) (x : Byte) :
    (s.setCks x).lastSequence = s.lastSequence := rfl
@[simp] theorem setCks_pending (s : State) (x : Byte) :
    (s.setCks x).pending = s.pending := rfl
@[simp] theorem setCks_currentFan (s : State) (x : Byte) :
    (s.setCks x).currentFan = s.currentFan := rfl
@[simp] theorem setCks_currentPump (s : State) (x : Byte) :
    (s.setCks x).currentPump = s.currentPump := rfl
@[simp] theorem setCks_targetFan (s : State) (x : Byte) :
    (s.setCks x).targetFan = s.targetFan := rfl
@[simp] theorem setCks_targetPump (s : State) (x : Byte) :
    (s.setCks x).targetPump = s.targetPump := rfl
@[simp] theorem setCks_relay (s : State) (x : Byte) :
    (s.setCks x).relay = s.relay := rfl
@[simp] theorem setCks_rx (s : State) (x : Byte) :
    (s.setCks x).rx = s.rx := rfl
@[simp] theorem setCks_tx (s : State) (x : Byte) :
    (s.setCks x).tx = s.tx := rfl
@[simp] theorem setCks_acts (s : State) (x : Byte) :
    (s.setCks x).acts = s.acts := rfl
@[simp] theorem setCks_results (s : State) (x : Byte) :
    (s.setCks x).results = s.results := rfl
@[simp] theorem setCks_ramps (s : State) (x : Byte) :
    (s.setCks x).ramps = s.ramps := rfl
@[simp] theorem setCks_returns (s : State) (x : Byte) :
    (s.setCks x).returns = s.returns := rfl
@[simp] theorem setCks_inputs (s : State) (x : Byte) :
    (s.setCks x).inputs = s.inputs := rfl

@[simp] theorem setPending_cfg (s : State) (p : Option FrameResult) :
    (s.setPending p).cfg = s.cfg := rfl
@[simp] theorem setPending_mode (s : State) (p : Option FrameResult) :
    (s.setPending p).mode = s.mode := rfl
@[simp] theorem setPending_buffer (s : State) (p : Option FrameResult) :
    (s.setPending p).buffer = s.buffer := rfl
@[simp] theorem setPending_cks (s : State) (p : Option FrameResult) :
    (s.setPending p).cks = s.cks := rfl
@[simp] theorem setPending_lastSequence (s : State) (p : Option FrameResult) :
    (s.setPending p).lastSequence = s.lastSequence := rfl
@[simp] theorem setPending_pending (s : State) (p : Option FrameResult) :
    (s.setPending p).pending = p := rfl
@[simp] theorem setPending_currentFan (s : State) (p : Option FrameResult) :
    (s.setPending p).currentFan = s.currentFan := rfl
@[simp] theorem setPending_currentPump (s : State) (p : Option FrameResult) :
    (s.setPending p).currentPump = s.currentPump := rfl
@[simp] theorem setPending_targetFan (s : State) (p : Option FrameResult) :
    (s.setPending p).targetFan = s.targetFan := rfl
@[simp] theorem setPending_targetPump (s : State) (p : Option FrameResult) :
    (s.setPending p).targetPump = s.targetPump := rfl
@[simp] theorem setPending_relay (s : State) (p : Option FrameResult) :
    (s.setPending p).relay = s.relay := rfl
@[simp] theorem setPending_rx (s : State) (p : Option FrameResult) :
    (s.setPending p).rx = s.rx := rfl
@[simp] theorem setPending_tx (s : State) (p : Option FrameResult) :
    (s.setPending p).tx = s.tx := rfl
@[simp] theorem setPending_acts (s : State) (p : Option FrameResult) :
    (s.setPending p).acts = s.acts := rfl
@[simp] theorem setPending_results (s : State) (p : Option FrameResult) :
    (s.setPending p).results = s.results := rfl
@[simp] theorem setPending_ramps (s : State) (p : Option FrameResult) :
    (s.setPending p).ramps = s.ramps := rfl
@[simp] theorem setPending_returns (s : State) (p : Option FrameResult) :
    (s.setPending p).returns = s.returns := rfl
@[simp] theorem setPending_inputs (s : State) (p : Option FrameResult) :
    (s.setPending p).inputs = s.inputs := rfl

@[simp] theorem setAccepted_cfg (s : State) (fr : Frame) :
    (s.setAccepted fr).cfg = s.cfg := rfl
@[simp] theorem setAccepted_mode (s : State) (fr : Frame) :
    (s.setAccepted fr).mode = s.mode := rfl
@[simp] theorem setAccepted_buffer (s : State) (fr : Frame) :
    (s.setAccepted fr).buffer = s.buffer := rfl
@[simp] theorem setAccepted_cks (s : State) (fr : Frame) :
    (s.setAccepted fr).cks = s.cks := rfl
@[simp] theorem setAccepted_lastSequence (s : State) (fr : Frame) :
    (s.setAccepted fr).lastSequence = some fr.sequence := rfl
@[simp] theorem setAccepted_pending (s : State) (fr : Frame) :
    (s.setAccepted fr).pending = s.pending := rfl
@[simp] theorem setAccepted_currentFan (s : State) (fr : Frame) :
    (s.setAccepted fr).currentFan = s.currentFan := rfl
@[simp] theorem setAccepted_currentPump (s : State) (fr : Frame) :
    (s.setAccepted fr).currentPump = s.currentPump := rfl
@[simp] theorem setAccepted_targetFan (s : State) (fr : Frame) :
    (s.setAccepted fr).targetFan = s.targetFan := rfl
@[simp] theorem setAccepted_targetPump (s : State) (fr : Frame) :
    (s.setAccepted fr).targetPump = s.targetPump := rfl
@[simp] theorem setAccepted_relay (s : State) (fr : Frame) :
    (s.setAccepted fr).relay = some fr := rfl
@[simp] theorem setAccepted_rx (s : State) (fr : Frame) :
    (s.setAccepted fr).rx = s.rx := rfl
@[simp] theorem setAccepted_tx (s : State) (fr : Frame) :
    (s.setAccepted fr).tx = s.tx := rfl
@[simp] theorem setAccepted_acts (s : State) (fr : Frame) :
    (s.setAccepted fr).acts = s.acts := rfl
@[simp] theorem setAccepted_results (s : State) (fr : Frame) :
    (s.setAccepted fr).results = s.results := rfl
@[simp] theorem setAccepted_ramps (s : State) (fr : Frame) :
    (s.setAccepted fr).ramps = s.ramps := rfl
@[simp] theorem setAccepted_returns (s : State) (fr : Frame) :
    (s.setAccepted fr).returns = s.returns := rfl
@[simp] theorem setAccepted_inputs (s : State) (fr : Frame) :
    (s.setAccepted fr).inputs = s.inputs := rfl

@[simp] theorem setRx_cfg (s : State) (bs : List Byte) :
    (s.setRx bs).cfg = s.cfg := rfl
@[simp] theorem setRx_mode (s : State) (bs : List Byte) :
    (s.setRx bs).mode = s.mode := rfl
@[simp] theorem setRx_buffer (s : State) (bs : List Byte) :
    (s.setRx bs).buffer = s.buffer := rfl
@[simp] theorem setRx_cks (s : State) (bs : List Byte) :
    (s.setRx bs).cks = s.cks := rfl
@[simp] theorem setRx_lastSequence (s : State) (bs : List Byte) :
    (s.setRx bs).lastSequence = s.lastSequence := rfl
@[simp] theorem setRx_pending (s : State) (bs : List Byte) :
    (s.setRx bs).pending = s.pending := rfl
@[simp] theorem setRx_currentFan (s : State) (bs : List Byte) :
    (s.setRx bs).currentFan = s.currentFan := rfl
@[simp] theorem setRx_currentPump (s : State) (bs : List Byte) :
    (s.setRx bs).currentPump = s.currentPump := rfl
@[simp] theorem setRx_targetFan (s : State) (bs : List Byte) :
    (s.setRx bs).targetFan = s.targetFan := rfl
@[simp] theorem setRx_targetPump (s : State) (bs : List Byte) :
    (s.setRx bs).targetPump = s.targetPump := rfl
@[simp] theorem setRx_relay (s : State) (bs : List Byte) :
    (s.setRx bs).relay = s.relay := rfl
@[simp] theorem setRx_rx (s : State) (bs : List Byte) :
    (s.setRx bs).rx = bs := rfl
@[simp] theorem setRx_tx (s : State) (bs : List Byte) :
    (s.setRx bs).tx = s.tx := rfl
@[simp] theorem setRx_acts (s : State) (bs : List Byte) :
    (s.setRx bs).acts = s.acts := rfl
@[simp] theorem setRx_results (s : State) (bs : List Byte) :
    (s.setRx bs).results = s.results := rfl
@[simp] theorem setRx_ramps (s : State) (bs : List Byte) :
    (s.setRx bs).ramps = s.ramps := rfl
@[simp] theorem setRx_returns (s : State) (bs : List Byte) :
    (s.setRx bs).returns = s.returns := rfl
@[simp] theorem setRx_inputs (s : State) (bs : List Byte) :
    (s.setRx bs).inputs = s.inputs := rfl

@[simp] theorem txWrite_cfg (s : State) (bs : List Byte) :
    (s.txWrite bs).cfg = s.cfg := rfl
@[simp] theorem txWrite_mode (s : State) (bs : List Byte) :
    (s.txWrite bs).mode = s.mode := rfl
@[simp] theorem txWrite_buffer (s : State) (bs : List Byte) :
    (s.txWrite bs).buffer = s.buffer := rfl
@[simp] theorem txWrite_cks (s : State) (bs : List Byte) :
    (s.txWrite bs).cks = s.cks := rfl
@[simp] theorem txWrite_lastSequence (s : State) (bs : List Byte) :
    (s.txWrite bs).lastSequence = s.lastSequence := rfl
@[simp] theorem txWrite_pending (s : State) (bs : List Byte) :
    (s.txWrite bs).pending = s.pending := rfl
@[simp] theorem txWrite_currentFan (s : State) (bs : List Byte) :
    (s.txWrite bs).currentFan = s.currentFan := rfl
@[simp] theorem txWrite_currentPump (s : State) (bs : List Byte) :
    (s.txWrite bs).currentPump = s.currentPump := rfl
@[simp] theorem txWrite_targetFan (s : State) (bs : List Byte) :
    (s.txWrite bs).targetFan = s.targetFan := rfl
@[simp] theorem txWrite_targetPump (s : State) (bs : List Byte) :
    (s.txWrite bs).targetPump = s.targetPump := rfl
@[simp] theorem txWrite_relay (s : State) (bs : List Byte) :
    (s.txWrite bs).relay = s.relay := rfl
@[simp] theorem txWrite_rx (s : State) (bs : List Byte) :
    (s.txWrite bs).rx = s.rx := rfl
@[simp] theorem txWrite_tx (s : State) (bs : List Byte) :
    (s.txWrite bs).tx = s.tx ++ bs := rfl
@[simp] theorem txWrite_acts (s : State) (bs : List Byte) :
    (s.txWrite bs).acts = s.acts := rfl
@[simp] theorem txWrite_results (s : State) (bs : List Byte) :
    (s.txWrite bs).results = s.results := rfl
@[simp] theorem txWrite_ramps (s : State) (bs : List Byte) :
    (s.txWrite bs).ramps = s.ramps := rfl
@[simp] theorem txWrite_returns (s : State) (bs : List Byte) :
    (s.txWrite bs).returns = s.returns := rfl
@[simp] theorem txWrite_inputs (s : State) (bs : List Byte) :
    (s.txWrite bs).inputs = s.inputs := rfl

@[simp] theorem actWrite_cfg (s : State) (a : Actuator) (v : Level) :
    (s.actWrite a v).cfg = s.cfg := rfl
@[simp] theorem actWrite_mode (s : State) (a : Actuator) (v : Level) :
    (s.actWrite a v).mode = s.mode := rfl
@[simp] theorem actWrite_buffer (s : State) (a : Actuator) (v : Level) :
    (s.actWrite a v).buffer = s.buffer := rfl
@[simp] theorem actWrite_cks (s : State) (a : Actuator) (v : Level) :
    (s.actWrite a v).cks = s.cks := rfl
@[simp] theorem actWrite_lastSequence (s : State) (a : Actuator) (v : Level) :
    (s.actWrite a v).lastSequence = s.lastSequence := rfl
@[simp] theorem actWrite_pending (s : State) (a : Actuator) (v : Level) :
    (s.actWrite a v).pending = s.pending := rfl
@[simp] theorem actWrite_currentFan (s : State) (a : Actuator) (v : Level) :
    (s.actWrite a v).currentFan = s.currentFan := rfl
@[simp] theorem actWrite_currentPump (s : State) (a : Actuator) (v : Level) :
    (s.actWrite a v).currentPump = s.currentPump := rfl
@[simp] theorem actWrite_targetFan (s : State) (a : Actuator) (v : Level) :
    (s.actWrite a v).targetFan = s.targetFan := rfl
@[simp] theorem actWrite_targetPump (s : State) (a : Actuator) (v : Level) :
    (s.actWrite a v).targetPump = s.targetPump := rfl
@[simp] theorem actWrite_relay (s : State) (a : Actuator) (v : Level) :
    (s.actWrite a v).relay = s.relay := rfl
@[simp] theorem actWrite_rx (s : State) (a : Actuator) (v : Level) :
    (s.actWrite a v).rx = s.rx := rfl
@[simp] theorem actWrite_tx (s : State) (a : Actuator) (v : Level) :
    (s.actWrite a v).tx = s.tx := rfl
@[simp] theorem actWrite_acts (s : State) (a : Actuator) (v : Level) :
    (s.actWrite a v).acts = s.acts ++ [⟨a, v⟩] := rfl
@[simp] theorem actWrite_results (s : State) (a : Actuator) (v : Level) :
    (s.actWrite a v).results = s.results := rfl
@[simp] theorem actWrite_ramps (s : State) (a : Actuator) (v : Level) :
    (s.actWrite a v).ramps = s.ramps := rfl
@[simp] theorem actWrite_returns (s : State) (a : Actuator) (v : Level) :
    (s.actWrite a v).returns = s.returns := rfl
@[simp] theorem actWrite_inputs (s : State) (a : Actuator) (v : Level) :
    (s.actWrite a v).inputs = s.inputs := rfl

@[simp] theorem logEvent_cfg (s : State) (e : TickEvent) :
    (s.logEvent e).cfg = s.cfg := rfl
@[simp] theorem logEvent_mode (s : State) (e : TickEvent) :
    (s.logEvent e).mode = s.mode := rfl
@[simp] theorem logEvent_buffer (s : State) (e : TickEvent) :
    (s.logEvent e).buffer = s.buffer := rfl
@[simp] theorem logEvent_cks (s : State) (e : TickEvent) :
    (s.logEvent e).cks = s.cks := rfl
@[simp] theorem logEvent_lastSequence (s : State) (e : TickEvent) :
    (s.logEvent e).lastSequence = s.lastSequence := rfl
@[simp] theorem logEvent_pending (s : State) (e : TickEvent) :
    (s.logEvent e).pending = s.pending := rfl
@[simp] theorem logEvent_currentFan (s : State) (e : TickEvent) :
    (s.logEvent e).currentFan = s.currentFan := rfl
@[simp] theorem logEvent_currentPump (s : State) (e : TickEvent) :
    (s.logEvent e).currentPump = s.currentPump := rfl
@[simp] theorem logEvent_targetFan (s : State) (e : TickEvent) :
    (s.logEvent e).targetFan = s.targetFan := rfl
@[simp] theorem logEvent_targetPump (s : State) (e : TickEvent) :
    (s.logEvent e).targetPump = s.targetPump := rfl
@[simp] theorem logEvent_relay (s : State) (e : TickEvent) :
    (s.logEvent e).relay = s.relay := rfl
@[simp] theorem logEvent_rx (s : State) (e : TickEvent) :
    (s.logEvent e).rx = s.rx := rfl
@[simp] theorem logEvent_tx (s : State) (e : TickEvent) :
    (s.logEvent e).tx = s.tx := rfl
@[simp] theorem logEvent_acts (s : State) (e : TickEvent) :
    (s.logEvent e).acts = s.acts := rfl
@[simp] theorem logEvent_results (s : State) (e : TickEvent) :
    (s.logEvent e).results = s.results ++ [e] := rfl
@[simp] theorem logEvent_ramps (s : State) (e : TickEvent) :
    (s.logEvent e).ramps = s.ramps := rfl
@[simp] theorem logEvent_returns (s : State) (e : TickEvent) :
    (s.logEvent e).returns = s.returns := rfl
@[simp] theorem logEvent_inputs (s : State) (e : TickEvent) :
    (s.logEvent e).inputs = s.inputs := rfl

@[simp] theorem logRamps_cfg (s : State) (f p : RampStatus) :
    (s.logRamps f p).cfg = s.cfg := rfl
@[simp] theorem logRamps_mode (s : State) (f p : RampStatus) :
    (s.logRamps f p).mode = s.mode := rfl
@[simp] theorem logRamps_buffer (s : State) (f p : RampStatus) :
    (s.logRamps f p).buffer = s.buffer := rfl
@[simp] theorem logRamps_cks (s : State) (f p : RampStatus) :
    (s.logRamps f p).cks = s.cks := rfl
@[simp] theorem logRamps_lastSequence (s : State) (f p : RampStatus) :
    (s.logRamps f p).lastSequence = s.lastSequence := rfl
@[simp] theorem logRamps_pending (s : State) (f p : RampStatus) :
    (s.logRamps f p).pending = s.pending := rfl
@[simp] theorem logRamps_currentFan (s : State) (f p : RampStatus) :
    (s.logRamps f p).currentFan = s.currentFan := rfl
@[simp] theorem logRamps_currentPump (s : State) (f p : RampStatus) :
    (s.logRamps f p).currentPump = s.currentPump := rfl
@[simp] theorem logRamps_targetFan (s : State) (f p : RampStatus) :
    (s.logRamps f p).targetFan = s.targetFan := rfl
@[simp] theorem logRamps_targetPump (s : State) (f p : RampStatus) :
    (s.logRamps f p).targetPump = s.targetPump := rfl
@[simp] theorem logRamps_relay (s : State) (f p : RampStatus) :
    (s.logRamps f p).relay = s.relay := rfl
@[simp] theorem logRamps_rx (s : State) (f p : RampStatus) :
    (s.logRamps f p).rx = s.rx := rfl
@[simp] theorem logRamps_tx (s : State) (f p : RampStatus) :
    (s.logRamps f p).tx = s.tx := rfl
@[simp] theorem logRamps_acts (s : State) (f p : RampStatus) :
    (s.logRamps f p).acts = s.acts := rfl
@[simp] theorem logRamps_results (s : State) (f p : RampStatus) :
    (s.logRamps f p).results = s.results := rfl
@[simp] theorem logRamps_ramps (s : State) (f p : RampStatus) :
    (s.logRamps f p).ramps = s.ramps ++ [(f, p)] := rfl
@[simp] theorem logRamps_returns (s : State) (f p : RampStatus) :
    (s.logRamps f p).returns = s.returns := rfl
@[simp] theorem logRamps_inputs (s : State) (f p : RampStatus) :
    (s.logRamps f p).inputs = s.inputs := rfl

@[simp] theorem logReturn_cfg (s : State) (r : ReturnValue) :
    (s.logReturn r).cfg = s.cfg := rfl
@[simp] theorem logReturn_mode (s : State) (r : ReturnValue) :
    (s.logReturn r).mode = s.mode := rfl
@[simp] theorem logReturn_buffer (s : State) (r : ReturnValue) :
    (s.logReturn r).buffer = s.buffer := rfl
@[simp] theorem logReturn_cks (s : State) (r : ReturnValue) :
    (s.logReturn r).cks = s.cks := rfl
@[simp] theorem logReturn_lastSequence (s : State) (r : ReturnValue) :
    (s.logReturn r).lastSequence = s.lastSequence := rfl
@[simp] theorem logReturn_pending (s : State) (r : ReturnValue) :
    (s.logReturn r).pending = s.pending := rfl
@[simp] theorem logReturn_currentFan (s : State) (r : ReturnValue) :
    (s.logReturn r).currentFan = s.currentFan := rfl
@[simp] theorem logReturn_currentPump (s : State) (r : ReturnValue) :
    (s.logReturn r).currentPump = s.currentPump := rfl
@[simp] theorem logReturn_targetFan (s : State) (r : ReturnValue) :
    (s.logReturn r).targetFan = s.targetFan := rfl
@[simp] theorem logReturn_targetPump (s : State) (r : ReturnValue) :
    (s.logReturn r).targetPump = s.targetPump := rfl
@[simp] theorem logReturn_relay (s : State) (r : ReturnValue) :
    (s.logReturn r).relay = s.relay := rfl
@[simp] theorem logReturn_rx (s : State) (r : ReturnValue) :
    (s.logReturn r).rx = s.rx := rfl
@[simp] theorem logReturn_tx (s : State) (r : ReturnValue) :
    (s.logReturn r).tx = s.tx := rfl
@[simp] theorem logReturn_acts (s : State) (r : ReturnValue) :
    (s.logReturn r).acts = s.acts := rfl
@[simp] theorem logReturn_results (s : State) (r : ReturnValue) :
    (s.logReturn r).results = s.results := rfl
@[simp] theorem logReturn_ramps (s : State) (r : ReturnValue) :
    (s.logReturn r).ramps = s.ramps := rfl
@[simp] theorem logReturn_returns (s : State) (r : ReturnValue) :
    (s.logReturn r).returns = s.returns ++ [r] := rfl
@[simp] theorem logReturn_inputs (s : State) (r : ReturnValue) :
    (s.logReturn r).inputs = s.inputs := rfl

@[simp] theorem setInputs_cfg (s : State) (l : List Input) :
    (s.setInputs l).cfg = s.cfg := rfl
@[simp] theorem setInputs_mode (s : State) (l : List Input) :
    (s.setInputs l).mode = s.mode := rfl
@[simp] theorem setInputs_buffer (s : State) (l : List Input) :
    (s.setInputs l).buffer = s.buffer := rfl
@[simp] theorem setInputs_cks (s : State) (l : List Input) :
    (s.setInputs l).cks = s.cks := rfl
@[simp] theorem setInputs_lastSequence (s : State) (l : List Input) :
    (s.setInputs l).lastSequence = s.lastSequence := rfl
@[simp] theorem setInputs_pending (s : State) (l : List Input) :
    (s.setInputs l).pending = s.pending := rfl
@[simp] theorem setInputs_currentFan (s : State) (l : List Input) :
    (s.setInputs l).currentFan = s.currentFan := rfl
@[simp] theorem setInputs_currentPump (s : State) (l : List Input) :
    (s.setInputs l).currentPump = s.currentPump := rfl
@[simp] theorem setInputs_targetFan (s : State) (l : List Input) :
    (s.setInputs l).targetFan = s.targetFan := rfl
@[simp] theorem setInputs_targetPump (s : State) (l : List Input) :
    (s.setInputs l).targetPump = s.targetPump := rfl
@[simp] theorem setInputs_relay (s : State) (l : List Input) :
    (s.setInputs l).relay = s.relay := rfl
@[simp] theorem setInputs_rx (s : State) (l : List Input) :
    (s.setInputs l).rx = s.rx := rfl
@[simp] theorem setInputs_tx (s : State) (l : List Input) :
    (s.setInputs l).tx = s.tx := rfl
@[simp] theorem setInputs_acts (s : State) (l : List Input) :
    (s.setInputs l).acts = s.acts := rfl
@[simp] theorem setInputs_results (s : State) (l : List Input) :
    (s.setInputs l).results = s.results := rfl
@[simp] theorem setInputs_ramps (s : State) (l : List Input) :
    (s.setInputs l).ramps = s.ramps := rfl
@[simp] theorem setInputs_returns (s : State) (l : List Input) :
    (s.setInputs l).returns = s.returns := rfl
@[simp] theorem setInputs_inputs (s : State) (l : List Input) :
    (s.setInputs l).inputs = l := rfl

@[simp] theorem ready_cfg (s : State) :
    (s.ready).cfg = s.cfg := rfl
@[simp] theorem ready_mode (s : State) :
    (s.ready).mode = .seekingStart := rfl
@[simp] theorem ready_buffer (s : State) :
    (s.ready).buffer = [] := rfl
@[simp] theorem ready_cks (s : State) :
    (s.ready).cks = s.cks := rfl
@[simp] theorem ready_lastSequence (s : State) :
    (s.ready).lastSequence = s.lastSequence := rfl
@[simp] theorem ready_pending (s : State) :
    (s.ready).pending = s.pending := rfl
@[simp] theorem ready_currentFan (s : State) :
    (s.ready).currentFan = s.currentFan := rfl
@[simp] theorem ready_currentPump (s : State) :
    (s.ready).currentPump = s.currentPump := rfl
@[simp] theorem ready_targetFan (s : State) :
    (s.ready).targetFan = s.targetFan := rfl
@[simp] theorem ready_targetPump (s : State) :
    (s.ready).targetPump = s.targetPump := rfl
@[simp] theorem ready_relay (s : State) :
    (s.ready).relay = s.relay := rfl
@[simp] theorem ready_rx (s : State) :
    (s.ready).rx = s.rx := rfl
@[simp] theorem ready_tx (s : State) :
    (s.ready).tx = s.tx := rfl
@[simp] theorem ready_acts (s : State) :
    (s.ready).acts = s.acts := rfl
@[simp] theorem ready_results (s : State) :
    (s.ready).results = s.results := rfl
@[simp] theorem ready_ramps (s : State) :
    (s.ready).ramps = s.ramps := rfl
@[simp] theorem ready_returns (s : State) :
    (s.ready).returns = s.returns := rfl
@[simp] theorem ready_inputs (s : State) :
    (s.ready).inputs = s.inputs := rfl

@[simp] theorem setCurrent_cfg (s : State) (a : Actuator) (v : Level) :
    (s.setCurrent a v).cfg = s.cfg := by cases a <;> rfl
@[simp] theorem setCurrent_mode (s : State) (a : Actuator) (v : Level) :
    (s.setCurrent a v).mode = s.mode := by cases a <;> rfl
@[simp] theorem setCurrent_buffer (s : State) (a : Actuator) (v : Level) :
    (s.setCurrent a v).buffer = s.buffer := by cases a <;> rfl
@[simp] theorem setCurrent_cks (s : State) (a : Actuator) (v : Level) :
    (s.setCurrent a v).cks = s.cks := by cases a <;> rfl
@[simp] theorem setCurrent_lastSequence (s : State) (a : Actuator) (v : Level) :
    (s.setCurrent a v).lastSequence = s.lastSequence := by cases a <;> rfl
@[simp] theorem setCurrent_pending (s : State) (a : Actuator) (v : Level) :
    (s.setCurrent a v).pending = s.pending := by cases a <;> rfl
@[simp] theorem setCurrent_targetFan (s : State) (a : Actuator) (v : Level) :
    (s.setCurrent a v).targetFan = s.targetFan := by cases a <;> rfl
@[simp] theorem setCurrent_targetPump (s : State) (a : Actuator) (v : Level) :
    (s.setCurrent a v).targetPump = s.targetPump := by cases a <;> rfl
@[simp] theorem setCurrent_relay (s : State) (a : Actuator) (v : Level) :
    (s.setCurrent a v).relay = s.relay := by cases a <;> rfl
@[simp] theorem setCurrent_rx (s : State) (a : Actuator) (v : Level) :
    (s.setCurrent a v).rx = s.rx := by cases a <;> rfl
@[simp] theorem setCurrent_tx (s : State) (a : Actuator) (v : Level) :
    (s.setCurrent a v).tx = s.tx := by cases a <;> rfl
@[simp] theorem setCurrent_acts (s : State) (a : Actuator) (v : Level) :
    (s.setCurrent a v).acts = s.acts := by cases a <;> rfl
@[simp] theorem setCurrent_results (s : State) (a : Actuator) (v : Level) :
    (s.setCurrent a v).results = s.results := by cases a <;> rfl
@[simp] theorem setCurrent_ramps (s : State) (a : Actuator) (v : Level) :
    (s.setCurrent a v).ramps = s.ramps := by cases a <;> rfl
@[simp] theorem setCurrent_returns (s : State) (a : Actuator) (v : Level) :
    (s.setCurrent a v).returns = s.returns := by cases a <;> rfl
@[simp] theorem setCurrent_inputs (s : State) (a : Actuator) (v : Level) :
    (s.setCurrent a v).inputs = s.inputs := by cases a <;> rfl
@[simp] theorem setCurrent_fan_currentFan (s : State) (v : Level) :
    (s.setCurrent .fan v).currentFan = v := rfl
@[simp] theorem setCurrent_fan_currentPump (s : State) (v : Level) :
    (s.setCurrent .fan v).currentPump = s.currentPump := rfl
@[simp] theorem setCurrent_pump_currentFan (s : State) (v : Level) :
    (s.setCurrent .pump v).currentFan = s.currentFan := rfl
@[simp] theorem setCurrent_pump_currentPump (s : State) (v : Level) :
    (s.setCurrent .pump v).currentPump = v := rfl

@[simp] theorem setTarget_cfg (s : State) (a : Actuator) (v : Level) :
    (s.setTarget a v).cfg = s.cfg := by cases a <;> rfl
@[simp] theorem setTarget_mode (s : State) (a : Actuator) (v : Level) :
    (s.setTarget a v).mode = s.mode := by cases a <;> rfl
@[simp] theorem setTarget_buffer (s : State) (a : Actuator) (v : Level) :
    (s.setTarget a v).buffer = s.buffer := by cases a <;> rfl
@[simp] theorem setTarget_cks (s : State) (a : Actuator) (v : Level) :
    (s.setTarget a v).cks = s.cks := by cases a <;> rfl
@[simp] theorem setTarget_lastSequence (s : State) (a : Actuator) (v : Level) :
    (s.setTarget a v).lastSequence = s.lastSequence := by cases a <;> rfl
@[simp] theorem setTarget_pending (s : State) (a : Actuator) (v : Level) :
    (s.setTarget a v).pending = s.pending := by cases a <;> rfl
@[simp] theorem setTarget_currentFan (s : State) (a : Actuator) (v : Level) :
    (s.setTarget a v).currentFan = s.currentFan := by cases a <;> rfl
@[simp] theorem setTarget_currentPump (s : State) (a : Actuator) (v : Level) :
    (s.setTarget a v).currentPump = s.currentPump := by cases a <;> rfl
@[simp] theorem setTarget_relay (s : State) (a : Actuator) (v : Level) :
    (s.setTarget a v).relay = s.relay := by cases a <;> rfl
@[simp] theorem setTarget_rx (s : State) (a : Actuator) (v : Level) :
    (s.setTarget a v).rx = s.rx := by cases a <;> rfl
@[simp] theorem setTarget_tx (s : State) (a : Actuator) (v : Level) :
    (s.setTarget a v).tx = s.tx := by cases a <;> rfl
@[simp] theorem setTarget_acts (s : State) (a : Actuator) (v : Level) :
    (s.setTarget a v).acts = s.acts := by cases a <;> rfl
@[simp] theorem setTarget_results (s : State) (a : Actuator) (v : Level) :
    (s.setTarget a v).results = s.results := by cases a <;> rfl
@[simp] theorem setTarget_ramps (s : State) (a : Actuator) (v : Level) :
    (s.setTarget a v).ramps = s.ramps := by cases a <;> rfl
@[simp] theorem setTarget_returns (s : State) (a : Actuator) (v : Level) :
    (s.setTarget a v).returns = s.returns := by cases a <;> rfl
@[simp] theorem setTarget_inputs (s : State) (a : Actuator) (v : Level) :
    (s.setTarget a v).inputs = s.inputs := by cases a <;> rfl
@[simp] theorem setTarget_fan_targetFan (s : State) (v : Level) :
    (s.setTarget .fan v).targetFan = v := rfl
@[simp] theorem setTarget_fan_targetPump (s : State) (v : Level) :
    (s.setTarget .fan v).targetPump = s.targetPump := rfl
@[simp] theorem setTarget_pump_targetFan (s : State) (v : Level) :
    (s.setTarget .pump v).targetFan = s.targetFan := rfl
@[simp] theorem setTarget_pump_targetPump (s : State) (v : Level) :
    (s.setTarget .pump v).targetPump = v := rfl

theorem current_setCurrent_same (s : State) (a : Actuator) (v : Level) :
    (s.setCurrent a v).current a = v := by cases a <;> rfl
theorem current_setCurrent_other (s : State) (a b : Actuator) (v : Level) (h : b ≠ a) :
    (s.setCurrent a v).current b = s.current b := by
  cases a <;> cases b <;> first | rfl | exact absurd rfl h
theorem target_setTarget_same (s : State) (a : Actuator) (v : Level) :
    (s.setTarget a v).target a = v := by cases a <;> rfl
theorem target_setTarget_other (s : State) (a b : Actuator) (v : Level) (h : b ≠ a) :
    (s.setTarget a v).target b = s.target b := by
  cases a <;> cases b <;> first | rfl | exact absurd rfl h
@[simp] theorem target_setCurrent (s : State) (a b : Actuator) (v : Level) :
    (s.setCurrent a v).target b = s.target b := by cases a <;> cases b <;> rfl
@[simp] theorem current_setTarget (s : State) (a b : Actuator) (v : Level) :
    (s.setTarget a v).current b = s.current b := by cases a <;> cases b <;> rfl

@[simp] theorem current_memAppend (s : State) (b : Byte) (c : Actuator) :
    (s.memAppend b).current c = s.current c := by cases c <;> rfl
@[simp] theorem target_memAppend (s : State) (b : Byte) (c : Actuator) :
    (s.memAppend b).target c = s.target c := by cases c <;> rfl
@[simp] theorem current_memClear (s : State) (c : Actuator) :
    (s.memClear).current c = s.current c := by cases c <;> rfl
@[simp] theorem target_memClear (s : State) (c : Actuator) :
    (s.memClear).target c = s.target c := by cases c <;> rfl
@[simp] theorem current_setMode (s : State) (m : Mode) (c : Actuator) :
    (s.setMode m).current c = s.current c := by cases c <;> rfl
@[simp] theorem target_setMode (s : State) (m : Mode) (c : Actuator) :
    (s.setMode m).target c = s.target c := by cases c <;> rfl
@[simp] theorem current_setCks (s : State) (x : Byte) (c : Actuator) :
    (s.setCks x).current c = s.current c := by cases c <;> rfl
@[simp] theorem target_setCks (s : State) (x : Byte) (c : Actuator) :
    (s.setCks x).target c = s.target c := by cases c <;> rfl
@[simp] theorem current_setPending (s : State) (p : Option FrameResult) (c : Actuator) :
    (s.setPending p).current c = s.current c := by cases c <;> rfl
@[simp] theorem target_setPending (s : State) (p : Option FrameResult) (c : Actuator) :
    (s.setPending p).target c = s.target c := by cases c <;> rfl
@[simp] theorem current_setAccepted (s : State) (fr : Frame) (c : Actuator) :
    (s.setAccepted fr).current c = s.current c := by cases c <;> rfl
@[simp] theorem target_setAccepted (s : State) (fr : Frame) (c : Actuator) :
    (s.setAccepted fr).target c = s.target c := by cases c <;> rfl
@[simp] theorem current_setRx (s : State) (bs : List Byte) (c : Actuator) :
    (s.setRx bs).current c = s.current c := by cases c <;> rfl
@[simp] theorem target_setRx (s : State) (bs : List Byte) (c : Actuator) :
    (s.setRx bs).target c = s.target c := by cases c <;> rfl
@[simp] theorem current_txWrite (s : State) (bs : List Byte) (c : Actuator) :
    (s.txWrite bs).current c = s.current c := by cases c <;> rfl
@[simp] theorem target_txWrite (s : State) (bs : List Byte) (c : Actuator) :
    (s.txWrite bs).target c = s.target c := by cases c <;> rfl
@[simp] theorem current_actWrite (s : State) (a : Actuator) (v : Level) (c : Actuator) :
    (s.actWrite a v).current c = s.current c := by cases c <;> rfl
@[simp] theorem target_actWrite (s : State) (a : Actuator) (v : Level) (c : Actuator) :
    (s.actWrite a v).target c = s.target c := by cases c <;> rfl
@[simp] theorem current_logEvent (s : State) (e : TickEvent) (c : Actuator) :
    (s.logEvent e).current c = s.current c := by cases c <;> rfl
@[simp] theorem target_logEvent (s : State) (e : TickEvent) (c : Actuator) :
    (s.logEvent e).target c = s.target c := by cases c <;> rfl
@[simp] theorem current_logRamps (s : State) (f p : RampStatus) (c : Actuator) :
    (s.logRamps f p).current c = s.current c := by cases c <;> rfl
@[simp] theorem target_logRamps (s : State) (f p : RampStatus) (c : Actuator) :
    (s.logRamps f p).target c = s.target c := by cases c <;> rfl
@[simp] theorem current_logReturn (s : State) (r : ReturnValue) (c : Actuator) :
    (s.logReturn r).current c = s.current c := by cases c <;> rfl
@[simp] theorem target_logReturn (s : State) (r : ReturnValue) (c : Actuator) :
    (s.logReturn r).target c = s.target c := by cases c <;> rfl
@[simp] theorem current_setInputs (s : State) (l : List Input) (c : Actuator) :
    (s.setInputs l).current c = s.current c := by cases c <;> rfl
@[simp] theorem target_setInputs (s : State) (l : List Input) (c : Actuator) :
    (s.setInputs l).target c = s.target c := by cases c <;> rfl
@[simp] theorem current_ready (s : State) (c : Actuator) :
    (s.ready).current c = s.current c := by cases c <;> rfl
@[simp] theorem target_ready (s : State) (c : Actuator) :
    (s.ready).target c = s.target c := by cases c <;> rfl

/-- Reading the frame buffer back (20_memory.md R52, R53). -/
theorem memRead_memAppend_new (s : State) (b : Byte) :
    (s.memAppend b).memRead s.buffer.length = some b := by
  simp [State.memRead, State.memAppend]
theorem memRead_memAppend_old (s : State) (b : Byte) (i : Nat) (h : i ≠ s.buffer.length) :
    (s.memAppend b).memRead i = s.memRead i := by
  simp only [State.memRead, State.memAppend]
  rcases Nat.lt_or_gt_of_ne h with h | h
  · exact List.getElem?_append_left h
  · rw [List.getElem?_eq_none (by simp; omega), List.getElem?_eq_none (by omega)]
theorem memRead_memClear (s : State) (i : Nat) : s.memClear.memRead i = none := rfl

/-- Every memory operation keeps the form of the memory (10_state.md R22). -/
theorem memAppend_wf (s : State) (b : Byte) (h : s.full = false) : Memory.wf (s.memAppend b) = true := by
  simp [State.full, Memory.wf] at *; omega
theorem memClear_wf (s : State) : Memory.wf s.memClear = true := by simp [Memory.wf]
theorem reset_wf : Memory.wf State.reset = true := by decide

/-- The context the decoder reads. -/
theorem ctx_full (s : State) : s.ctx.full = s.full := rfl
theorem ctx_inSimple (s : State) (m : Mode) : s.ctx.inSimple m = s.inSimple m := rfl
theorem ctx_inChecksummed (s : State) (m : Mode) : s.ctx.inChecksummed m = s.inChecksummed m := rfl

end Sys2Proof.Machine
end

