-- ==== Sys2Proof/Laws/Ops.lean ====
section
/-! SUPPORT. For each shared operation, one lemma that says once everything it can do. Later proofs
cite these instead of unfolding the operation. -/

namespace Sys2Proof.Machine

open Sys2Proof

/-- raise writes mode and buffer only (60_exceptions.md R214). -/
theorem raise_eq (e : FrameResult) (s : State) : raise e s = (s.ready, some e) := rfl

theorem deliver_eq (x : Fed) : deliver x = .next (x.1.logReturn (.feed x.2)) := rfl

/-- A row answers a next state exactly where it is selected. -/
theorem whenRow_next {sel : Bool} {x : Fed} {t : State} (h : whenRow sel x = .next t) :
    sel = true ∧ t = x.1.logReturn (.feed x.2) := by
  unfold whenRow at h
  split at h
  · exact ⟨‹_›, (Host.Outcome.next.inj h).symm⟩
  · cases h

theorem whenRow_true (x : Fed) : whenRow true x = deliver x := rfl

/-- What FEED_S can do: one of its five cases (40_decoder_simple.md R100). -/
theorem feedSimple_cases {b : Byte} {s : State} {x : Fed} (h : feedSimple b s = .ok x) :
    (s.mode = .seekingStart ∧ b = START ∧ x = simpleStart s) ∨
    (s.mode = .seekingStart ∧ b ≠ START ∧ x = simpleDiscard s) ∨
    (s.mode = .accumulating ∧ b = END ∧ x = simpleEnd s) ∨
    (s.mode = .accumulating ∧ b ≠ END ∧ s.full = true ∧ x = simpleOverflow s) ∨
    (s.mode = .accumulating ∧ b ≠ END ∧ s.full = false ∧ x = simpleAppend b s) := by
  unfold feedSimple at h
  split at h
  · split at h <;> cases h <;> simp_all
  · split at h
    · cases h; simp_all
    · split at h <;> cases h <;> simp_all
  · cases h

/-- FEED_S is refused only in the mode the simple dialect never reaches (R110). -/
theorem feedSimple_error {b : Byte} {s : State} {r : Refusal} (h : feedSimple b s = .error r) :
    s.mode = .seekingChecksum ∧ r = .checksumModeInSimple := by
  unfold feedSimple at h
  split at h
  · split at h <;> cases h
  · split at h
    · cases h
    · split at h <;> cases h
  · cases h; exact ⟨‹_›, rfl⟩

/-- What a matched checksum leads to (41_decoder_checksummed.md R127 to R129). -/
theorem judgeFrame_cases (s : State) :
    (s.buffer.length < 2 ∧ judgeFrame s = checkedShort s) ∨
    (∃ fr : Frame, s.buffer = fr.address :: fr.sequence :: fr.payload ∧
      duplicate fr.sequence s.lastSequence = true ∧ judgeFrame s = checkedDuplicate s) ∨
    (∃ fr : Frame, s.buffer = fr.address :: fr.sequence :: fr.payload ∧
      duplicate fr.sequence s.lastSequence = false ∧ judgeFrame s = checkedAccept fr s) := by
  unfold judgeFrame State.verifiedFrame
  rcases s.buffer with _ | ⟨a, _ | ⟨q, p⟩⟩
  · exact .inl ⟨by simp, rfl⟩
  · exact .inl ⟨by simp, rfl⟩
  · right
    cases hd : duplicate q s.lastSequence
    · exact .inr ⟨⟨a, q, p⟩, rfl, hd, by simp [hd]⟩
    · exact .inl ⟨⟨a, q, p⟩, rfl, hd, by simp [hd]⟩

/-- What FEED_C can do (41_decoder_checksummed.md R120); the matched checksum is judgeFrame's. -/
theorem feedChecked_cases (b : Byte) (s : State) :
    (s.mode = .seekingStart ∧ b = START ∧ feedChecked b s = checkedStart s) ∨
    (s.mode = .seekingStart ∧ b ≠ START ∧ feedChecked b s = checkedDiscard s) ∨
    (s.mode = .accumulating ∧ b = END ∧ feedChecked b s = checkedEnd s) ∨
    (s.mode = .accumulating ∧ b ≠ END ∧ s.full = true ∧ feedChecked b s = checkedOverflow s) ∨
    (s.mode = .accumulating ∧ b ≠ END ∧ s.full = false ∧ feedChecked b s = checkedAppend b s) ∨
    (s.mode = .seekingChecksum ∧ b ≠ s.cks ∧ feedChecked b s = checkedMismatch s) ∨
    (s.mode = .seekingChecksum ∧ b = s.cks ∧ feedChecked b s = judgeFrame s) := by
  unfold feedChecked
  cases hm : s.mode <;> simp only
  · by_cases hb : b = START <;> simp [hb]
  · by_cases hb : b = END
    · simp [hb]
    · cases hf : s.full <;> simp [hb]
  · by_cases hb : b = s.cks <;> simp [hb]

/-- What no FEED touches: everything but mode, buffer, cks, last_sequence and relay
(40_decoder_simple.md R112, 41_decoder_checksummed.md R139). -/
structure DecoderFrame (s t : State) : Prop where
  cfg : t.cfg = s.cfg
  pending : t.pending = s.pending
  currentFan : t.currentFan = s.currentFan
  currentPump : t.currentPump = s.currentPump
  targetFan : t.targetFan = s.targetFan
  targetPump : t.targetPump = s.targetPump
  rx : t.rx = s.rx
  tx : t.tx = s.tx
  acts : t.acts = s.acts
  results : t.results = s.results
  ramps : t.ramps = s.ramps
  returns : t.returns = s.returns
  inputs : t.inputs = s.inputs

theorem feedSimple_frame {b : Byte} {s : State} {x : Fed} (h : feedSimple b s = .ok x) :
    DecoderFrame s x.1 := by
  rcases feedSimple_cases h with ⟨-, -, rfl⟩ | ⟨-, -, rfl⟩ | ⟨-, -, rfl⟩ | ⟨-, -, -, rfl⟩ | ⟨-, -, -, rfl⟩ <;>
    constructor <;> rfl

theorem judgeFrame_frame (s : State) : DecoderFrame s (judgeFrame s).1 := by
  rcases judgeFrame_cases s with ⟨-, h⟩ | ⟨_, -, -, h⟩ | ⟨_, -, -, h⟩ <;> rw [h] <;> constructor <;> rfl

theorem feedChecked_frame (b : Byte) (s : State) : DecoderFrame s (feedChecked b s).1 := by
  rcases feedChecked_cases b s with
    ⟨-, -, h⟩ | ⟨-, -, h⟩ | ⟨-, -, h⟩ | ⟨-, -, -, h⟩ | ⟨-, -, -, h⟩ | ⟨-, -, h⟩ | ⟨-, -, h⟩ <;> rw [h]
  case inr.inr.inr.inr.inr.inr => exact judgeFrame_frame s
  all_goals constructor <;> rfl

theorem feed_frame {b : Byte} {s : State} {x : Fed} (h : feed b s = .ok x) : DecoderFrame s x.1 := by
  unfold feed at h
  split at h
  · exact feedSimple_frame h
  · cases h; exact feedChecked_frame b s

/-! Each case of the contracts as an equation, for running a FEED symbolically. -/

theorem feedSimple_start {s : State} (h : s.mode = .seekingStart) :
    feedSimple START s = .ok (simpleStart s) := by simp [feedSimple, h]
theorem feedSimple_discard {b : Byte} {s : State} (h : s.mode = .seekingStart) (hb : b ≠ START) :
    feedSimple b s = .ok (simpleDiscard s) := by simp [feedSimple, h, hb]
theorem feedSimple_end {s : State} (h : s.mode = .accumulating) :
    feedSimple END s = .ok (simpleEnd s) := by simp [feedSimple, h]
theorem feedSimple_append {b : Byte} {s : State} (h : s.mode = .accumulating) (hb : b ≠ END)
    (hf : s.full = false) : feedSimple b s = .ok (simpleAppend b s) := by simp [feedSimple, h, hb, hf]
theorem feedSimple_overflow {b : Byte} {s : State} (h : s.mode = .accumulating) (hb : b ≠ END)
    (hf : s.full = true) : feedSimple b s = .ok (simpleOverflow s) := by simp [feedSimple, h, hb, hf]

theorem feedChecked_start {s : State} (h : s.mode = .seekingStart) :
    feedChecked START s = checkedStart s := by simp [feedChecked, h]
theorem feedChecked_discard {b : Byte} {s : State} (h : s.mode = .seekingStart) (hb : b ≠ START) :
    feedChecked b s = checkedDiscard s := by simp [feedChecked, h, hb]
theorem feedChecked_end {s : State} (h : s.mode = .accumulating) :
    feedChecked END s = checkedEnd s := by simp [feedChecked, h]
theorem feedChecked_append {b : Byte} {s : State} (h : s.mode = .accumulating) (hb : b ≠ END)
    (hf : s.full = false) : feedChecked b s = checkedAppend b s := by simp [feedChecked, h, hb, hf]
theorem feedChecked_overflow {b : Byte} {s : State} (h : s.mode = .accumulating) (hb : b ≠ END)
    (hf : s.full = true) : feedChecked b s = checkedOverflow s := by simp [feedChecked, h, hb, hf]
theorem feedChecked_mismatch {b : Byte} {s : State} (h : s.mode = .seekingChecksum) (hb : b ≠ s.cks) :
    feedChecked b s = checkedMismatch s := by simp [feedChecked, h, hb]
theorem feedChecked_match {s : State} (h : s.mode = .seekingChecksum) :
    feedChecked s.cks s = judgeFrame s := by simp [feedChecked, h]

theorem feed_simple {s : State} (h : s.cfg.dialect = .simple) (b : Byte) :
    feed b s = feedSimple b s := by simp [feed, h]
theorem feed_checksummed {s : State} (h : s.cfg.dialect = .checksummed) (b : Byte) :
    feed b s = .ok (feedChecked b s) := by simp [feed, h]

/-- FEED neither reads nor writes the byte source and the returned values (40_decoder_simple.md R112,
41_decoder_checksummed.md R139). -/
theorem feed_ignores_ports (b : Byte) (s : State) (rx : List Byte) (rets : List ReturnValue) :
    feed b { s with rx := rx, returns := rets } =
      (feed b s).map (fun x => ({ x.1 with rx := rx, returns := rets }, x.2)) := by
  have hf : ({ s with rx := rx, returns := rets } : State).full = s.full := rfl
  have hj : judgeFrame { s with rx := rx, returns := rets } =
      ({ (judgeFrame s).1 with rx := rx, returns := rets }, (judgeFrame s).2) := by
    unfold judgeFrame
    rw [show State.verifiedFrame { s with rx := rx, returns := rets } = s.verifiedFrame from rfl]
    cases s.verifiedFrame with
    | none => rfl
    | some fr => dsimp only; split <;> rfl
  unfold feed feedSimple feedChecked
  dsimp only
  rw [hf, hj]
  cases s.cfg.dialect <;> cases hm : s.mode <;> dsimp only <;> repeat' split
  all_goals first | rfl | (rw [← hm]; rfl)

/-- FEED is total outside the mode the simple dialect never reaches, and does not enter it. -/
theorem feed_total {s : State} (h : s.cfg.dialect = .simple → s.mode ≠ .seekingChecksum) (b : Byte) :
    ∃ x, feed b s = .ok x ∧ (x.1.cfg.dialect = .simple → x.1.mode ≠ .seekingChecksum) := by
  cases hd : s.cfg.dialect with
  | checksummed =>
    refine ⟨_, feed_checksummed hd b, ?_⟩
    rw [(feedChecked_frame b s).cfg, hd]; simp
  | simple =>
    cases hx : feedSimple b s with
    | error r => exact absurd (feedSimple_error hx).1 (h hd)
    | ok x =>
      refine ⟨x, by rw [feed_simple hd, hx], fun _ => ?_⟩
      rcases feedSimple_cases hx with
        ⟨-, -, rfl⟩ | ⟨h1, -, rfl⟩ | ⟨-, -, rfl⟩ | ⟨-, -, -, rfl⟩ | ⟨h1, -, -, rfl⟩ <;>
        simp_all [simpleStart, simpleDiscard, simpleEnd, simpleOverflow, simpleAppend, raise]

/-- Feeding two lists in a row. -/
theorem feedAll_append (xs ys : List Byte) (s : State) : feedAll (xs ++ ys) s =
    match feedAll xs s with
    | .error r => .error r
    | .ok t => feedAll ys t := by
  induction xs generalizing s with
  | nil => rfl
  | cons x xs ih =>
    simp only [List.cons_append, feedAll]
    cases feed x s <;> simp [ih]

theorem feedAll_cons {b : Byte} {s : State} {x : Fed} (bs : List Byte) (h : feed b s = .ok x) :
    feedAll (b :: bs) s = feedAll bs (x.1.logReturn (.feed x.2)) := by simp [feedAll, h]

/-- What F and P can do (42_dispatcher.md R154 to R156). -/
theorem dispatchSet_cases (a : Actuator) (args : List Byte) (s : State) :
    (parseDec args = none ∧ dispatchSet a args s =
      (s.txWrite (rejectedReply s.cfg.replyTerm a args), .argumentUnparseable)) ∨
    (∃ v, parseDec args = some v ∧ MAX_LEVEL < v ∧ dispatchSet a args s =
      (s.txWrite (rejectedReply s.cfg.replyTerm a args), .argumentOutOfRange)) ∨
    (∃ v, parseDec args = some v ∧ v ≤ MAX_LEVEL ∧ dispatchSet a args s =
      ((s.setTarget a (BitVec.ofNat 8 v)).txWrite (acceptedReply s.cfg.replyTerm a (BitVec.ofNat 8 v)),
        .ok)) := by
  unfold dispatchSet rejectSet acceptSet
  cases hp : parseDec args with
  | none => simp
  | some v =>
    right
    by_cases hv : MAX_LEVEL < v
    · left; exact ⟨v, rfl, hv, by simp [hv]⟩
    · right; exact ⟨v, rfl, by omega, by simp [hv]⟩

/-- Arguments that no set command accepts end in an error status, the reply and nothing else
(42_dispatcher.md R154, R155). -/
theorem dispatchSet_rejectable {args : List Byte} (h : rejectable args = true) (a : Actuator) (s : State) :
    ∃ st, dispatchSet a args s = rejectSet a args st s ∧
      (st = .argumentUnparseable ∨ st = .argumentOutOfRange) := by
  rcases dispatchSet_cases a args s with ⟨-, e⟩ | ⟨_, -, -, e⟩ | ⟨v, hp, hv, -⟩
  · exact ⟨_, e, .inl rfl⟩
  · exact ⟨_, e, .inr rfl⟩
  · simp [rejectable, hp] at h; omega

/-- DISPATCH writes exactly one reply (42_dispatcher.md R161). -/
theorem dispatch_tx (sel : Selector) (args : List Byte) (s : State) :
    ∃ r, (dispatch sel args s).1.tx = s.tx ++ r ∧
      ((∃ a v, r = acceptedReply s.cfg.replyTerm a v) ∨
        (∃ a, rejectable args = true ∧ r = rejectedReply s.cfg.replyTerm a args) ∨
        r = queryReply s.cfg s.currentFan s.currentPump) := by
  unfold dispatch
  split
  · rename_i a _
    rcases dispatchSet_cases a args s with ⟨hp, e⟩ | ⟨v, hp, hv, e⟩ | ⟨v, -, -, e⟩ <;> rw [e]
    · exact ⟨_, rfl, .inr (.inl ⟨a, by simp [rejectable, hp], rfl⟩)⟩
    · exact ⟨_, rfl, .inr (.inl ⟨a, by simp [rejectable, hp, hv], rfl⟩)⟩
    · exact ⟨acceptedReply s.cfg.replyTerm a (BitVec.ofNat 8 v), by simp, .inl ⟨a, _, rfl⟩⟩
  · exact ⟨_, rfl, .inr (.inr rfl)⟩

/-- What ADVANCE can do (43_ramp.md R181, R182). -/
theorem advance_cases (a : Actuator) (s : State) :
    (s.current a = s.target a ∧ advance a s = (s, .converged)) ∨
    (s.current a ≠ s.target a ∧ advance a s =
      ((s.setCurrent a (stepToward (s.current a) (s.target a))).actWrite a
        (stepToward (s.current a) (s.target a)), .stepping)) := by
  unfold advance
  by_cases h : s.current a = s.target a <;> simp [h]

/-- The step is one unit toward the target and never wraps (43_ramp.md R184). -/
theorem stepToward_toNat (c t : Level) (h : c ≠ t) :
    (stepToward c t).toNat = if c.toNat < t.toNat then c.toNat + 1 else c.toNat - 1 := by
  have hne : c.toNat ≠ t.toNat := fun e => h (BitVec.eq_of_toNat_eq e)
  have hc := c.isLt
  have ht := t.isLt
  unfold stepToward
  split <;> simp <;> omega

/-- The ingest loop touches only the decoder, pending and the byte source (44_tick.md R192). -/
structure IngestFrame (s t : State) : Prop where
  cfg : t.cfg = s.cfg
  currentFan : t.currentFan = s.currentFan
  currentPump : t.currentPump = s.currentPump
  targetFan : t.targetFan = s.targetFan
  targetPump : t.targetPump = s.targetPump
  tx : t.tx = s.tx
  acts : t.acts = s.acts
  results : t.results = s.results
  ramps : t.ramps = s.ramps
  returns : t.returns = s.returns
  inputs : t.inputs = s.inputs

theorem fillPending_frame (x : Fed) : IngestFrame x.1 (fillPending x) := by
  rcases x with ⟨s, _ | r⟩ <;> constructor <;> rfl

theorem ingest_frame (n : Nat) (s t : State) (h : ingest n s = .ok t) : IngestFrame s t := by
  induction n generalizing s with
  | zero => cases h; constructor <;> rfl
  | succ n ih =>
    unfold ingest at h
    split at h
    · cases h; constructor <;> rfl
    · cases h; constructor <;> rfl
    · split at h
      · cases h
      · rename_i x hx
        have f1 := feed_frame hx
        have f2 := fillPending_frame x
        have f3 := ih _ h
        constructor
        · exact f3.cfg.trans (f2.cfg.trans f1.cfg)
        · exact f3.currentFan.trans (f2.currentFan.trans f1.currentFan)
        · exact f3.currentPump.trans (f2.currentPump.trans f1.currentPump)
        · exact f3.targetFan.trans (f2.targetFan.trans f1.targetFan)
        · exact f3.targetPump.trans (f2.targetPump.trans f1.targetPump)
        · exact f3.tx.trans (f2.tx.trans f1.tx)
        · exact f3.acts.trans (f2.acts.trans f1.acts)
        · exact f3.results.trans (f2.results.trans f1.results)
        · exact f3.ramps.trans (f2.ramps.trans f1.ramps)
        · exact f3.returns.trans (f2.returns.trans f1.returns)
        · exact f3.inputs.trans (f2.inputs.trans f1.inputs)

/-- What the dispatch step can do (44_tick.md R194 to R196). -/
theorem dispatchStep_cases (s : State) :
    (s.pending = none ∧ dispatchStep s = (s, .noEvent)) ∨
    (∃ sel args, s.pending = some (.command sel args) ∧ isSetCommand sel = true ∧ s.settled = false ∧
      dispatchStep s = (s, .held)) ∨
    (∃ sel args, s.pending = some (.command sel args) ∧ (isSetCommand sel = false ∨ s.settled = true) ∧
      dispatchStep s = ((dispatch sel args s).1.setPending none,
        .dispatched sel args (dispatch sel args s).2)) ∨
    (∃ r, s.pending = some r ∧ (∀ sel args, r ≠ .command sel args) ∧
      dispatchStep s = (s.setPending none, .reported r)) := by
  unfold dispatchStep
  cases hp : s.pending with
  | none => simp
  | some r =>
    cases r with
    | command sel args =>
      cases hs : isSetCommand sel <;> cases ht : s.settled <;> simp [hs]
    | unknown bytes => simp
    | frame fr => simp
    | frameTooLong => simp
    | checksumError => simp

/-- ADVANCE writes the level and the actuator stream, and nothing else (43_ramp.md R187). -/
theorem advance_frame (a : Actuator) (s : State) : (advance a s).1 =
    { s with
      currentFan := (advance a s).1.currentFan, currentPump := (advance a s).1.currentPump,
      acts := (advance a s).1.acts } := by
  rcases advance_cases a s with ⟨-, h⟩ | ⟨-, h⟩ <;> rw [h]
  cases a <;> rfl

@[simp] theorem advance_target (a : Actuator) (s : State) : (advance a s).1.target = s.target := by
  rw [advance_frame]; funext b; cases b <;> rfl

/-- An actuator at its target stays there (43_ramp.md R181). -/
theorem advance_keeps_atTarget (a b : Actuator) (s : State) (h : s.atTarget b = true) :
    (advance a s).1.atTarget b = true := by
  rcases advance_cases a s with ⟨-, e⟩ | ⟨hne, e⟩ <;> rw [e]
  · exact h
  · cases a <;> cases b <;>
      simp_all [State.atTarget, State.current, State.target, State.setCurrent, State.actWrite]

/-- DISPATCH writes the targets and the byte sink, and nothing else (42_dispatcher.md R162). -/
theorem dispatch_frame (sel : Selector) (args : List Byte) (s : State) : (dispatch sel args s).1 =
    { s with
      targetFan := (dispatch sel args s).1.targetFan, targetPump := (dispatch sel args s).1.targetPump,
      tx := (dispatch sel args s).1.tx } := by
  unfold dispatch
  split
  · rename_i a _
    rcases dispatchSet_cases a args s with ⟨-, h⟩ | ⟨_, -, -, h⟩ | ⟨_, -, -, h⟩ <;> rw [h] <;> cases a <;> rfl
  · rfl

/-- A full pending slot stops the ingest loop at once (44_tick.md R192, R193). -/
theorem ingest_pending {n : Nat} {s : State} {r : FrameResult} (h : s.pending = some r) :
    ingest n s = .ok s := by
  cases n <;> simp [ingest, h]

/-- The ingest loop always ends (44_tick.md R201). -/
theorem ingest_total (n : Nat) (s : State) (h : s.cfg.dialect = .simple → s.mode ≠ .seekingChecksum) :
    ∃ t, ingest n s = .ok t := by
  induction n generalizing s with
  | zero => exact ⟨_, rfl⟩
  | succ n ih =>
    unfold ingest
    split
    · exact ⟨_, rfl⟩
    · exact ⟨_, rfl⟩
    · rename_i b rest _ _
      obtain ⟨x, hx, h2⟩ := feed_total (s := s.setRx rest) (by simpa using h) b
      rw [hx]
      apply ih
      unfold fillPending
      split <;> simpa using h2

/-- Steps 2 and 3 of a tick, spelled out (44_tick.md R190). -/
theorem afterIngest_eq (s : State) : afterIngest s =
    ((advance .pump (advance .fan (dispatchStep s).1).1).1.logEvent (dispatchStep s).2).logRamps
      (advance .fan (dispatchStep s).1).2 (advance .pump (advance .fan (dispatchStep s).1).1).2 := rfl

/-- The exclusive-or of a list grows at its end (41_decoder_checksummed.md R123). -/
theorem xorAll_append (bs : List Byte) (b : Byte) : xorAll (bs ++ [b]) = xorAll bs ^^^ b := by
  simp [xorAll]

end Sys2Proof.Machine
end

