-- ==== Sys2Proof/Laws/PerInstr.lean ====
section
/-! SUPPORT. Per instruction: byte 0 of its word fits the mask and match of its row of
spec/opcode_table.json (30_encoding.md R86). -/

namespace Sys2Proof.Laws.EncodeMatchesRow

open Sys2Proof

/-- Byte 0 of a word, which in a frame stands behind the SYNC bytes (30_encoding.md R78). -/
def byte0 (w : Call) : Option Byte :=
  match w.format with
  | .frame => (w.bytes.dropWhile (fun b => b == SYNC)).head?
  | _ => w.bytes.head?

/-- The row's mask and match hold of byte 0 of every word of the instruction. -/
def Statement (i : Instr) : Prop :=
  ∀ (c : Ctx) (b : Byte), byte0 (encode c i) = some b → b &&& i.maskMatch.1 = i.maskMatch.2

theorem anyByte {b : Byte} : b &&& (0 : Byte) = 0 := BitVec.and_zero

/-- The exact matches of the table, on the byte that stands there. -/
theorem startFits : START &&& (0xFF : Byte) = 0x02 := by decide
theorem fFits : Selector.f.byte &&& (0xFF : Byte) = 0x46 := by decide
theorem pFits : Selector.p.byte &&& (0xFF : Byte) = 0x50 := by decide
theorem qFits : Selector.q.byte &&& (0xFF : Byte) = 0x51 := by decide

theorem dropSync (n : Nat) (b : Byte) (bs : List Byte) (h : (b == SYNC) = false) :
    (List.replicate n SYNC ++ b :: bs).dropWhile (fun x => x == SYNC) = b :: bs := by
  induction n with
  | zero => simp [h]
  | succ n ih => simpa [List.replicate_succ] using ih

theorem feedSStart : Statement (.feedSStart) := by
  intro c x h
  cases h; rfl

theorem feedSDiscard (b : Byte) : Statement (.feedSDiscard b) := by
  intro c x _
  exact anyByte

theorem feedSEnd : Statement (.feedSEnd) := by
  intro c x h
  cases h; rfl

theorem feedSOverflow (b : Byte) : Statement (.feedSOverflow b) := by
  intro c x _
  exact anyByte

theorem feedSAppend (b : Byte) : Statement (.feedSAppend b) := by
  intro c x _
  exact anyByte

theorem feedCStart : Statement (.feedCStart) := by
  intro c x h
  cases h; rfl

theorem feedCDiscard (b : Byte) : Statement (.feedCDiscard b) := by
  intro c x _
  exact anyByte

theorem feedCEnd : Statement (.feedCEnd) := by
  intro c x h
  cases h; rfl

theorem feedCOverflow (b : Byte) : Statement (.feedCOverflow b) := by
  intro c x _
  exact anyByte

theorem feedCAppend (b : Byte) : Statement (.feedCAppend b) := by
  intro c x _
  exact anyByte

theorem feedCCksMismatch (b : Byte) : Statement (.feedCCksMismatch b) := by
  intro c x _
  exact anyByte

theorem feedCCksShort (b : Byte) : Statement (.feedCCksShort b) := by
  intro c x _
  exact anyByte

theorem feedCCksDuplicate (b : Byte) : Statement (.feedCCksDuplicate b) := by
  intro c x _
  exact anyByte

theorem feedCCksAccept (b : Byte) : Statement (.feedCCksAccept b) := by
  intro c x _
  exact anyByte

theorem f (args : List Byte) : Statement (.f args) := by
  intro c x h
  cases h; exact fFits

theorem p (args : List Byte) : Statement (.p args) := by
  intro c x h
  cases h; exact pFits

theorem q (args : List Byte) : Statement (.q args) := by
  intro c x h
  cases h; exact qFits

theorem unknown (bytes : List Byte) : Statement (.unknown bytes) := by
  intro c x _
  exact anyByte

theorem seqRepeat (upper : BitVec 4) (number : BitVec 3) : Statement (.seqRepeat upper number) := by
  intro c x h
  cases h
  revert upper number
  decide

theorem seqNew (upper : BitVec 4) (number : BitVec 3) : Statement (.seqNew upper number) := by
  intro c x h
  cases h
  revert upper number
  decide

theorem termEnd : Statement (.termEnd) := by
  intro c x h
  cases h; rfl

theorem termAck : Statement (.termAck) := by
  intro c x h
  cases h; rfl

theorem replyAccepted (a : Actuator) (v : Level) : Statement (.replyAccepted a v) := by
  intro c x h
  cases h; exact startFits

theorem replyRejected (a : Actuator) (args : List Byte) : Statement (.replyRejected a args) := by
  intro c x h
  cases h; exact startFits

theorem replyQuery : Statement (.replyQuery) := by
  intro c x h
  cases h; rfl

theorem sframe (body : List Byte) : Statement (.sframe body) := by
  intro c x h
  simp only [byte0, encode, List.cons_append, List.dropWhile_cons, show (START == SYNC) = false from rfl] at h
  cases h; exact startFits

theorem cframe (sync : Nat) (address sequence : Byte) (payload : List Byte) : Statement (.cframe sync address sequence payload) := by
  intro c x h
  simp only [byte0, encode, encodeFrame, List.cons_append] at h
  rw [dropSync _ _ _ (by decide)] at h
  cases h; exact startFits

theorem feedS (b : Byte) : Statement (.feedS b) := by
  intro c x _
  exact anyByte

theorem feedC (b : Byte) : Statement (.feedC b) := by
  intro c x _
  exact anyByte

theorem encodeC (address sequence : Byte) (payload : List Byte) : Statement (.encodeC address sequence payload) := by
  intro c x _
  exact anyByte

theorem dispatch (sel : Selector) (args : List Byte) : Statement (.dispatch sel args) := by
  intro c x _
  exact anyByte

theorem advance (a : Actuator) : Statement (.advance a) := by
  intro c x _
  exact anyByte

theorem tick : Statement (.tick) := by
  intro c x _
  exact anyByte

theorem reset : Statement (.reset) := by
  intro c x _
  exact anyByte

end Sys2Proof.Laws.EncodeMatchesRow
end

