-- ==== Sys2Proof/Tests/Slice0.lean ====
section
/-! SUPPORT. Tests of the model: ill-formed terms, words written out from 30_encoding.md, vectors of
95_test_vectors.md (the ids V-… in the comments), and for every statement with hypotheses a state and
operands that meet them. Every expected value is the spec's, not the model's answer. -/

namespace Sys2Proof.Tests

open Sys2Proof Sys2Proof.Machine Sys2Proof.Safety

/-- The next state of an outcome. -/
def nextOf (o : Host.Outcome State Fault Refusal) : Option State :=
  match o with
  | .next t => some t
  | .fault _ => none
  | .refused _ => none

/-- The refusal of an outcome. -/
def refusalOf (o : Host.Outcome State Fault Refusal) : Option Refusal :=
  match o with
  | .next _ => none
  | .fault _ => none
  | .refused r => some r

/-- What a decode gives, when it gives an instruction. -/
def decoded (c : Ctx) (f : Format) (bs : List Byte) : Option Instr :=
  match decode c ⟨f, bs⟩ with
  | .ok i => some i
  | .error _ => none

/-- Parameters of 95_test_vectors.md with another dialect and MAX_FRAME_LEN. -/
def params (d : Dialect) (n : Nat) : Config := { Config.reference with dialect := d, maxFrameLen := n }

/-- The reset state of a simple block. -/
def simple0 : State := State.resetOf (params .simple 8)
/-- A simple block inside a frame whose buffer holds bs, MAX_FRAME_LEN = 4. -/
def simpleIn (bs : List Byte) : State :=
  { State.resetOf (params .simple 4) with mode := .accumulating, buffer := bs }
/-- The reset state of a checksummed block. -/
def checked0 : State := State.resetOf (params .checksummed 8)
/-- A checksummed block inside a frame, MAX_FRAME_LEN = 4, the checksum as R38 has it. -/
def checkedIn (bs : List Byte) : State :=
  { State.resetOf (params .checksummed 4) with
    mode := .accumulating, buffer := bs, cks := 0x02 ^^^ xorAll bs }
/-- A checksummed block that awaits the checksum byte. -/
def checkedEndOf (bs : List Byte) (last : Option Byte) : State :=
  { State.resetOf (params .checksummed 8) with
    mode := .seekingChecksum, buffer := bs, cks := 0x01 ^^^ xorAll bs, lastSequence := last }
/-- Levels and targets. -/
def levels (cf cp tf tp : Level) : State :=
  { simple0 with currentFan := cf, currentPump := cp, targetFan := tf, targetPump := tp }

/-! ## Ill-formed terms are refused (30_encoding.md R72, R75, R83, R84) -/

theorem test_wf_discard_start :
    (Instr.feedSDiscard 0x02).wf = false ∧ (Instr.feedCDiscard 0x02).wf = false := by decide
theorem test_wf_overflow_end :
    (Instr.feedSOverflow 0x03).wf = false ∧ (Instr.feedCOverflow 0x03).wf = false := by decide
theorem test_wf_append_end :
    (Instr.feedSAppend 0x03).wf = false ∧ (Instr.feedCAppend 0x03).wf = false := by decide
theorem test_wf_args_end :
    (Instr.f [0x31, 0x03]).wf = false ∧ (Instr.p [0x03]).wf = false ∧ (Instr.q [0x03]).wf = false ∧
      (Instr.dispatch .f [0x03]).wf = false := by decide
theorem test_wf_unknown_end : (Instr.unknown [0x58, 0x03]).wf = false := by decide
theorem test_wf_unknown_command :
    (Instr.unknown [0x46]).wf = false ∧ (Instr.unknown [0x50]).wf = false ∧
      (Instr.unknown [0x51, 0x31]).wf = false ∧ (Instr.unknown []).wf = true := by decide
theorem test_wf_seqNew_end : (Instr.seqNew 0 3).wf = false ∧ (Instr.seqNew 1 3).wf = true := by decide
theorem test_wf_rejected_end : (Instr.replyRejected .fan [0x03]).wf = false := by decide
theorem test_wf_rejected_acceptable :
    (Instr.replyRejected .fan [0x32, 0x35, 0x35]).wf = false ∧
      (Instr.replyRejected .fan [0x32, 0x35, 0x36]).wf = true ∧
      (Instr.replyRejected .pump []).wf = true := by decide
theorem test_wf_frames_end :
    (Instr.sframe [0x46, 0x03]).wf = false ∧ (Instr.cframe 0 0x03 0x31 []).wf = false ∧
      (Instr.cframe 0 0x31 0x03 []).wf = false ∧ (Instr.cframe 0 0x31 0x31 [0x03]).wf = false := by
  decide

/-! ## Words, one for every constructor, written from the layouts of 30_encoding.md -/

theorem test_decode_simple_bytes :
    decoded simple0.ctx .rxByte [0x02] = some .feedSStart ∧
    decoded simple0.ctx .rxByte [0x03] = some (.feedSDiscard 0x03) ∧
    decoded (simpleIn []).ctx .rxByte [0x03] = some .feedSEnd ∧
    decoded (simpleIn [0x46, 0x31, 0x32, 0x33]).ctx .rxByte [0x34] = some (.feedSOverflow 0x34) ∧
    decoded (simpleIn [0x46, 0x31, 0x32]).ctx .rxByte [0x02] = some (.feedSAppend 0x02) := by decide

theorem test_decode_checked_bytes :
    decoded checked0.ctx .rxByte [0x02] = some .feedCStart ∧
    decoded checked0.ctx .rxByte [0xFF] = some (.feedCDiscard 0xFF) ∧
    decoded (checkedIn [0x31]).ctx .rxByte [0x03] = some .feedCEnd ∧
    decoded (checkedIn [0x31, 0x31, 0x41, 0x42]).ctx .rxByte [0x43] = some (.feedCOverflow 0x43) ∧
    decoded (checkedIn [0x31]).ctx .rxByte [0x02] = some (.feedCAppend 0x02) := by decide

/-- The checksum bytes of V-C5, V-C10b, V-C18 and V-C3. -/
theorem test_decode_checksum_bytes :
    decoded (checkedEndOf [0x31, 0x31, 0x41, 0x31, 0x30, 0x30, 0x30, 0x52] none).ctx .rxByte [0x03] =
      some (.feedCCksMismatch 0x03) ∧
    decoded (checkedEndOf [0x31] none).ctx .rxByte [0x30] = some (.feedCCksShort 0x30) ∧
    decoded (checkedEndOf [0x31, 0x0A] (some 0x32)).ctx .rxByte [0x3A] =
      some (.feedCCksDuplicate 0x3A) ∧
    decoded (checkedEndOf [0x31, 0x32] none).ctx .rxByte [0x02] = some (.feedCCksAccept 0x02) := by
  decide

theorem test_decode_selectors :
    decoded simple0.ctx .selector [0x46, 0x31, 0x32, 0x30] = some (.f [0x31, 0x32, 0x30]) ∧
    decoded simple0.ctx .selector [0x50, 0x32] = some (.p [0x32]) ∧
    decoded simple0.ctx .selector [0x51] = some (.q []) ∧
    decoded simple0.ctx .selector [0x66, 0x31] = some (.unknown [0x66, 0x31]) := by decide

/-- F9 = 1111 1 001 and 32 = 0011 0 010 (R76). -/
theorem test_decode_sequence_bytes :
    decoded simple0.ctx .seqByte [0xF9] = some (.seqRepeat 0xF 1) ∧
    decoded simple0.ctx .seqByte [0x32] = some (.seqNew 0x3 2) ∧
    decoded simple0.ctx .seqByte [0x03] = none := by decide

theorem test_decode_terminators :
    decoded simple0.ctx .replyTerm [0x03] = some .termEnd ∧
    decoded simple0.ctx .replyTerm [0x06] = some .termAck ∧
    decoded simple0.ctx .replyTerm [0x02] = none := by decide

/-- The replies of V-D1, V-D5 and V-D15. -/
theorem test_decode_replies :
    decoded simple0.ctx .reply [0x02, 0x46, 0x31, 0x32, 0x30, 0x03] = some (.replyAccepted .fan 120) ∧
    decoded simple0.ctx .reply [0x02, 0x46, 0x45, 0x33, 0x30, 0x30, 0x03] =
      some (.replyRejected .fan [0x33, 0x30, 0x30]) ∧
    decoded (levels 50 0 120 0).ctx .reply [0x02, 0x51, 0x35, 0x30, 0x2C, 0x30, 0x2C, 0x3F, 0x03] =
      some .replyQuery ∧
    decoded simple0.ctx .reply [0x02, 0x46, 0x30, 0x30, 0x37, 0x03] = none := by decide

/-- The frames of V-S2 and V-C2. -/
theorem test_decode_frames :
    decoded simple0.ctx .frame [0x02, 0x46, 0x31, 0x32, 0x30, 0x03] =
      some (.sframe [0x46, 0x31, 0x32, 0x30]) ∧
    decoded checked0.ctx .frame
      [0xFF, 0xFF, 0x02, 0x31, 0x31, 0x41, 0x31, 0x30, 0x30, 0x30, 0x52, 0x03, 0x13] =
      some (.cframe 2 0x31 0x31 [0x41, 0x31, 0x30, 0x30, 0x30, 0x52]) ∧
    decoded checked0.ctx .frame [0x02, 0x31, 0x32, 0x03, 0x03] = none := by decide

theorem test_decode_events :
    decoded simple0.ctx (.event .feedS) [0x41] = some (.feedS 0x41) ∧
    decoded simple0.ctx (.event .feedC) [0x41] = some (.feedC 0x41) ∧
    decoded simple0.ctx (.event .encodeC) [0x31, 0x32] = some (.encodeC 0x31 0x32 []) ∧
    decoded simple0.ctx (.event .dispatch) [0x50, 0x32] = some (.dispatch .p [0x32]) ∧
    decoded simple0.ctx (.event (.advance .pump)) [] = some (.advance .pump) ∧
    decoded simple0.ctx (.event .tick) [] = some .tick ∧
    decoded simple0.ctx (.event .reset) [] = some .reset ∧
    decoded simple0.ctx (.event .dispatch) [0x58] = none := by decide

/-! ## Vectors of 95_test_vectors.md -/

/-- The decoder's part of the next state and what was returned. -/
def decoderAfter (o : Host.Outcome State Fault Refusal) : Option (Mode × List Byte × List ReturnValue) :=
  (nextOf o).map (fun t => (t.mode, t.buffer, t.returns))

/-- V-S2, byte 6, and V-S3. -/
theorem test_feedSEnd :
    decoderAfter (exec .feedSEnd (simpleIn [0x46, 0x31, 0x32, 0x30])) =
      some (.seekingStart, [], [.feed (some (.command .f [0x31, 0x32, 0x30]))]) ∧
    decoderAfter (exec .feedSEnd (simpleIn [])) =
      some (.seekingStart, [], [.feed (some (.unknown []))]) := by decide

/-- V-S9, byte 6, and V-S14, byte 3. -/
theorem test_feedS_bound :
    decoderAfter (exec (.feedS 0x34) (simpleIn [0x46, 0x31, 0x32, 0x33])) =
      some (.seekingStart, [], [.feed (some .frameTooLong)]) ∧
    decoderAfter (exec (.feedS 0x31) (simpleIn [0x46])) =
      some (.accumulating, [0x46, 0x31], [.feed none]) := by decide

/-- V-S7: START inside a frame is data; V-S8: a buffer of MAX_FRAME_LEN bytes is delivered. -/
theorem test_sframe :
    decoderAfter (exec (.sframe [0x46, 0x02, 0x46, 0x31]) simple0) =
      some (.seekingStart, [], lastOnly 5 (some (.command .f [0x02, 0x46, 0x31]))) ∧
    decoderAfter (exec (.sframe [0x46, 0x31, 0x32, 0x33]) (State.resetOf (params .simple 4))) =
      some (.seekingStart, [], lastOnly 5 (some (.command .f [0x31, 0x32, 0x33]))) := by decide

/-- V-S10: exactly one result. -/
theorem test_sframe_overlong :
    decoderAfter (exec (.sframe [0x46, 0x31, 0x32, 0x33, 0x34, 0x35]) (State.resetOf (params .simple 4))) =
      some (.seekingStart, [], lastOnly 5 (some .frameTooLong) ++ [.feed none, .feed none]) := by decide

/-- V-C1: the frame, the checksum left in cks, last_sequence and relay. -/
theorem test_cframe_accept :
    (nextOf (exec (.cframe 0 0x31 0x31 [0x41, 0x31, 0x30, 0x30, 0x30, 0x52]) checked0)).map
      (fun t => (t.mode, t.cks, t.lastSequence, t.relay)) =
      some (.seekingStart, 0x13, some 0x31,
        some ⟨0x31, 0x31, [0x41, 0x31, 0x30, 0x30, 0x30, 0x52]⟩) := by decide

/-- V-C15, byte 10: the buffer already holds 8 bytes. -/
theorem test_feedC_overflow :
    decoderAfter (exec (.feedC 0x02)
      { checkedIn [0x31, 0x31, 0x41, 0x31, 0x30, 0x30, 0x30, 0x52] with cfg := params .checksummed 8 }) =
      some (.seekingStart, [], [.feed (some .frameTooLong)]) := by decide

/-- V-C5, V-C10b, byte 4, and V-C19b. -/
theorem test_feedC_checksum_byte :
    decoderAfter (exec (.feedC 0x03)
      (checkedEndOf [0x31, 0x31, 0x41, 0x31, 0x30, 0x30, 0x30, 0x52] none)) =
      some (.seekingStart, [], [.feed (some .checksumError)]) ∧
    decoderAfter (exec (.feedC 0x30) (checkedEndOf [0x31] none)) =
      some (.seekingStart, [], [.feed (some (.unknown [0x31]))]) ∧
    decoderAfter (exec (.feedC 0x38) (checkedEndOf [0x31, 0x08] (some 0x00))) =
      some (.seekingStart, [], [.feed none]) := by decide

/-- V-C19: number 0 with the flag set is accepted when nothing was accepted before. -/
theorem test_seqRepeat_first :
    decoderAfter (exec (.seqRepeat 0 0) (checkedEndOf [0x31, 0x08] none)) =
      some (.seekingStart, [], [.feed (some (.frame ⟨0x31, 0x08, []⟩))]) := by decide

/-- V-C9's second frame, upper bits ignored, and V-C9b's second, flag clear. -/
theorem test_sequence_rows :
    decoderAfter (exec (.seqRepeat 0xF 1) (checkedEndOf [0x42, 0xF9, 0x5A, 0x5A] (some 0x31))) =
      some (.seekingStart, [], [.feed none]) ∧
    decoderAfter (exec (.seqNew 0x3 1) (checkedEndOf [0x31, 0x31] (some 0x39))) =
      some (.seekingStart, [], [.feed (some (.frame ⟨0x31, 0x31, []⟩))]) := by decide

/-- The encodings of section 3. -/
theorem test_encodeC :
    encodeFrame 0x31 0x39 [0x41, 0x31, 0x30, 0x30, 0x30, 0x52] =
      [0x02, 0x31, 0x39, 0x41, 0x31, 0x30, 0x30, 0x30, 0x52, 0x03, 0x1B] ∧
    encodeFrame 0x41 0x0A [0x02, 0x00] = [0x02, 0x41, 0x0A, 0x02, 0x00, 0x03, 0x48] := by decide

/-- The reply, the targets and the status after a command. -/
def commandAfter (o : Host.Outcome State Fault Refusal) :
    Option (List Byte × Level × Level × List ReturnValue) :=
  (nextOf o).map (fun t => (t.tx, t.targetFan, t.targetPump, t.returns))

/-- V-D2 and V-D9. -/
theorem test_dispatch_accepts :
    commandAfter (exec (.dispatch .p [0x32, 0x35, 0x35]) simple0) =
      some ([0x02, 0x50, 0x32, 0x35, 0x35, 0x03], 0, 255, [.dispatch .ok]) ∧
    commandAfter (exec (.f [0x30, 0x30, 0x37]) simple0) =
      some ([0x02, 0x46, 0x37, 0x03], 7, 0, [.dispatch .ok]) := by decide

/-- V-D4 and V-D7. -/
theorem test_dispatch_rejects :
    commandAfter (exec (.dispatch .f [0x32, 0x35, 0x36]) simple0) =
      some ([0x02, 0x46, 0x45, 0x32, 0x35, 0x36, 0x03], 0, 0, [.dispatch .argumentOutOfRange]) ∧
    commandAfter (exec (.p [0x31, 0x32, 0x61]) simple0) =
      some ([0x02, 0x50, 0x45, 0x31, 0x32, 0x61, 0x03], 0, 0, [.dispatch .argumentUnparseable]) := by
  decide

/-- V-D11: twenty nines do not wrap; V-D10: leading zeros. -/
theorem test_parse_unbounded :
    parseDec (List.replicate 20 0x39) = some 99999999999999999999 ∧
    parseDec (List.replicate 19 0x30 ++ [0x32, 0x35, 0x35]) = some 255 := by decide

/-- V-D16 and V-D23. -/
theorem test_query :
    commandAfter (exec (.q []) (levels 255 7 255 7)) =
      some ([0x02, 0x51, 0x32, 0x35, 0x35, 0x2C, 0x37, 0x2C, 0x3F, 0x03], 255, 7,
        [.dispatch .queryAnswered]) ∧
    (nextOf (exec .replyQuery { levels 1 2 1 2 with
      cfg := { params .simple 8 with tempSentinel := [0x4E, 0x41] } })).map State.tx =
      some [0x02, 0x51, 0x31, 0x2C, 0x32, 0x2C, 0x4E, 0x41, 0x03] := by decide

/-- V-D20's reply: REPLY_TERM = ACK. -/
theorem test_reply_ack :
    (nextOf (exec (.replyRejected .fan [0x33, 0x30, 0x30])
      { simple0 with cfg := { params .simple 8 with replyTerm := .ack } })).map State.tx =
      some [0x02, 0x46, 0x45, 0x33, 0x30, 0x30, 0x06] := by decide

/-- V-D2's reply with its case: target, reply, status; a terminator by itself writes nothing. -/
theorem test_reply_rows :
    commandAfter (exec (.replyAccepted .pump 255) simple0) =
      some ([0x02, 0x50, 0x32, 0x35, 0x35, 0x03], 0, 255, [.dispatch .ok]) ∧
    commandAfter (exec .termEnd simple0) = some ([], 0, 0, [.encoded [0x03]]) := by decide

/-- V-A8 and V-A9: the ends of the range. -/
theorem test_advance :
    (nextOf (exec (.advance .fan) (levels 254 0 255 0))).map (fun t => (t.currentFan, t.acts, t.returns)) =
      some (255, [⟨.fan, 255⟩], [.ramp .stepping]) ∧
    (nextOf (exec (.advance .fan) (levels 1 0 0 0))).map (fun t => (t.currentFan, t.acts, t.returns)) =
      some (0, [⟨.fan, 0⟩], [.ramp .stepping]) := by decide

/-- V-T2, tick 1: the set command is read and held. -/
theorem test_tick_holds :
    (nextOf (exec .tick { levels 0 0 0 2 with rx := [0x02, 0x46, 0x31, 0x03] })).map
      (fun t => (t.pending, t.currentPump, t.results, t.tx)) =
      some (some (.command .f [0x31]), 1, [.held], []) := by decide

/-- V-T7, tick 1: one result a tick, the second frame stays in the source. -/
theorem test_tick_one_result :
    (nextOf (exec .tick { simple0 with rx := [0x02, 0x51, 0x03, 0x02, 0x51, 0x03] })).map
      (fun t => (t.rx, t.results, t.tx)) =
      some ([0x02, 0x51, 0x03], [.dispatched .q [] .queryAnswered],
        [0x02, 0x51, 0x30, 0x2C, 0x30, 0x2C, 0x3F, 0x03]) := by decide

/-- RESET (P4 of section 7): nothing is remembered, the byte source keeps what it holds. -/
theorem test_reset :
    (nextOf (exec .reset { checkedEndOf [0x31] (some 0x3A) with rx := [0x02], currentFan := 9 })).map
      (fun t => (t.mode, t.cks, t.lastSequence, t.currentFan, t.rx)) =
      some (.seekingStart, 0x00, none, 0, [0x02]) := by decide

/-- The words of two table rows, numbered as the table numbers bits. -/
theorem test_table_words :
    decodeTableWord 8 0x02 = some .feedSStart ∧ decodeTableWord 8 0x08 = some (.seqRepeat 0 0) := by
  decide

/-- A placed word runs as the first instruction after reset. -/
theorem test_placed_word :
    (nextOf (step (State.reset.withFetchWord 8 0x02))).map State.mode = some .accumulating ∧
    (nextOf (step (State.reset.withFetchWord 8 0x51))).map State.tx =
      some [0x02, 0x51, 0x30, 0x2C, 0x30, 0x2C, 0x3F, 0x03] := by decide

/-! ## The hypotheses of the statements are met -/

theorem reset_inv : BlockInv simple0 := by
  constructor <;> simp [simple0, params, State.resetOf, relayAgrees, pendingHeld] <;> decide

/-- A frame in reception, the checksum awaited, a frame accepted before. -/
theorem checked_inv : BlockInv
    { checkedEndOf [0x31, 0x0A] (some 0x32) with relay := some ⟨0x31, 0x32, []⟩ } := by
  constructor <;> simp [checkedEndOf, State.resetOf, relayAgrees, pendingHeld, checksumAgrees] <;> decide

theorem witness_DecodeOfEncodeIsIdentity :
    (Instr.feedSAppend 0x02).wf = true ∧ (Instr.feedSAppend 0x02).selected (simpleIn [0x46]).ctx = true ∧
    (Instr.cframe 2 0x31 0x31 []).wf = true ∧
    (Instr.cframe 2 0x31 0x31 []).selected checked0.ctx = true := by decide

theorem witness_EncodeOfDecodeIsIdentity :
    decode simple0.ctx ⟨.selector, [0x51]⟩ = .ok (.q []) := rfl

theorem witness_OneRowPerReceivedByte :
    (simple0.ctx.cfg.dialect = .simple → simple0.ctx.mode ≠ .seekingChecksum) ∧
    ((checkedEndOf [] none).ctx.cfg.dialect = .simple →
      (checkedEndOf [] none).ctx.mode ≠ .seekingChecksum) := by decide

theorem witness_DecimalTextRoundTrip :
    (∀ b ∈ ([0x30, 0x39] : List Byte), 0x30 ≤ b.toNat ∧ b.toNat ≤ 0x39) ∧
    (∃ b ∈ ([0x2F] : List Byte), ¬(0x30 ≤ b.toNat ∧ b.toNat ≤ 0x39)) ∧
    (∃ b ∈ ([0x39, 0x3A] : List Byte), ¬(0x30 ≤ b.toNat ∧ b.toNat ≤ 0x39)) ∧
    parseDec [0x30, 0x37] = some (7 : Level).toNat := by decide

theorem witness_StepRunsDecodedInstruction :
    (params .simple 3).ok = false ∧ (params .checksummed 1).ok = false ∧
    (params .simple 4).ok = true ∧ (params .checksummed 2).ok = true ∧
    decode simple0.ctx ⟨.event .reset, []⟩ = .ok .reset ∧
    decode simple0.ctx ⟨.event .reset, [0x00]⟩ = .error .wrongLength ∧ simple0.inputs = [] :=
  ⟨by decide, by decide, by decide, by decide, rfl, rfl, rfl⟩

theorem witness_PlacedTableWordRuns :
    (simple0.withFetchWord 8 0x02).cfg.ok = true ∧ (simple0.withFetchWord 8 0x03).cfg.ok = true ∧
    (simple0.withFetchWord 8 0x06).cfg.ok = true ∧ (simple0.withFetchWord 8 0xFF).cfg.ok = true := by
  decide

theorem witness_StepKeepsInvariant : BlockInv simple0 ∧ ∃ t, step simple0 = .next t :=
  ⟨reset_inv, _, rfl⟩

theorem witness_ResetHasInvariant :
    Config.ok (params .simple 4) = true ∧ Config.ok (params .checksummed 2) = true := by decide

theorem witness_ControlLoopNeverStops : BlockInv simple0 ∧ simple0.inputs = [] := ⟨reset_inv, rfl⟩

theorem witness_OnlyOwnersWrite :
    (∃ t, exec (.advance .fan) (levels 0 0 1 0) = .next t) ∧
    mayWriteDecoder (.advance .fan) = false ∧ mayWritePending (.advance .fan) = false ∧
    mayWriteTarget .fan (.advance .fan) = false ∧ mayWriteCurrent .pump (.advance .fan) = false :=
  ⟨⟨_, rfl⟩, by decide, by decide, by decide, by decide⟩

theorem witness_ParametersStayAndHistoriesGrow :
    ∃ t, step { simple0 with rx := [0x02, 0x51, 0x03] } = .next t := ⟨_, rfl⟩

theorem witness_ByteRowRunsIffSelected :
    isByteRow (.feedSAppend 0x02) = true ∧ (Instr.feedSAppend 0x02).wf = true ∧
    (Instr.feedSAppend 0x02).selected (simpleIn [0x46, 0x31, 0x32]).ctx = true ∧
    (Instr.feedSAppend 0x02).selected (simpleIn [0x46, 0x31, 0x32, 0x33]).ctx = false := by decide

/-- For SimpleDiscardLeavesState and SimpleStartOpensFrame. -/
theorem witness_SimpleSeekingStart :
    simple0.cfg.dialect = .simple ∧ simple0.mode = .seekingStart ∧ (0x03 : Byte) ≠ 0x02 := by decide

theorem witness_SimpleEndYieldsCommand :
    (simpleIn [0x46]).cfg.dialect = .simple ∧ (simpleIn [0x46]).mode = .accumulating ∧
    (simpleIn [0x46]).buffer = Selector.byte .f :: [] ∧
    (simpleIn [0x50, 0x31]).buffer = Selector.byte .p :: [0x31] ∧
    (simpleIn [0x51]).buffer = Selector.byte .q :: [] := by decide

theorem witness_SimpleEndYieldsUnknown :
    (simpleIn []).cfg.dialect = .simple ∧ (simpleIn []).mode = .accumulating ∧
    (simpleIn []).buffer = [] ∧ (simpleIn [0x45]).mode = .accumulating ∧
    (simpleIn [0x45]).buffer = 0x45 :: [] ∧ (0x45 : Byte) ≠ 0x46 ∧ (0x45 : Byte) ≠ 0x50 ∧
    (0x45 : Byte) ≠ 0x51 := by decide

theorem witness_SimpleAppendStoresByte :
    (simpleIn [0x46, 0x31, 0x32]).cfg.dialect = .simple ∧
    (simpleIn [0x46, 0x31, 0x32]).mode = .accumulating ∧ (0x02 : Byte) ≠ 0x03 ∧
    (simpleIn [0x46, 0x31, 0x32]).buffer.length < (simpleIn [0x46, 0x31, 0x32]).cfg.maxFrameLen := by
  decide

theorem witness_SimpleOverflowRaises :
    (simpleIn [0x46, 0x31, 0x32, 0x33]).cfg.dialect = .simple ∧
    (simpleIn [0x46, 0x31, 0x32, 0x33]).mode = .accumulating ∧ (0x34 : Byte) ≠ 0x03 ∧
    (simpleIn [0x46, 0x31, 0x32, 0x33]).buffer.length =
      (simpleIn [0x46, 0x31, 0x32, 0x33]).cfg.maxFrameLen := by decide

/-- For FeedSTotalAndOnlyDecoder and FeedCTotalAndOnlyDecoder. -/
theorem witness_FeedTotal :
    (simpleIn [0x46]).cfg.dialect = .simple ∧ (simpleIn [0x46]).mode ≠ .seekingChecksum ∧
    (checkedEndOf [0x31] none).cfg.dialect = .checksummed := by decide

theorem witness_FeedRefusals :
    (simple0.cfg.dialect = .simple ∧ { simple0 with mode := .seekingChecksum }.mode = .seekingChecksum) ∧
    checked0.cfg.dialect = .checksummed := by decide

/-- From SeekingStart, and from inside a frame. -/
theorem witness_SurfacedOnlyBetweenStartAndEnd :
    simple0.cfg.dialect = .simple ∧ simple0.mode = .seekingStart ∧
    (∃ t, feedAll [0x41, 0x42, 0x02, 0x51, 0x03] simple0 = .ok t) ∧
    (simpleIn [0x46]).mode = .accumulating ∧
    ∃ t, feedAll [0x31, 0x03, 0x02, 0x51, 0x03] (simpleIn [0x46]) = .ok t :=
  ⟨rfl, rfl, ⟨_, rfl⟩, rfl, _, rfl⟩

theorem witness_SimpleFrameIsDecodedExactly :
    (State.resetOf (params .simple 4)).cfg.dialect = .simple ∧
    (State.resetOf (params .simple 4)).mode = .seekingStart ∧
    (∀ b ∈ ([0x46, 0x31, 0x32, 0x33] : List Byte), b ≠ 0x03) ∧
    [0x46, 0x31, 0x32, 0x33].length ≤ (State.resetOf (params .simple 4)).cfg.maxFrameLen ∧
    isUnknown [] = true ∧ isUnknown [0x58] = true := by decide

/-- One byte too many (a START), two, and a START in the tail. -/
theorem witness_OverlongSimpleFrameSurfacesNothing :
    let s := State.resetOf (params .simple 4)
    s.cfg.dialect = .simple ∧ s.mode = .seekingStart ∧
    (∀ b ∈ ([0x46, 0x31, 0x32, 0x33, 0x02, 0x35] : List Byte), b ≠ 0x03) ∧
    [0x46, 0x31, 0x32, 0x33, 0x02].length = s.cfg.maxFrameLen + 1 + 0 ∧
    [0x46, 0x31, 0x32, 0x33, 0x02, 0x35].length = s.cfg.maxFrameLen + 1 + 1 ∧
    (∀ b ∈ ([0x46, 0x31, 0x32, 0x33, 0x02, 0x35] : List Byte).drop (s.cfg.maxFrameLen + 1), b ≠ 0x02) ∧
    (∀ b ∈ ([0x46, 0x31, 0x32, 0x33, 0x34, 0x02, 0x51] : List Byte), b ≠ 0x03) ∧
    [0x46, 0x31, 0x32, 0x33, 0x34, 0x02, 0x51].length = s.cfg.maxFrameLen + 1 + 2 := by decide

/-- For CheckedDiscardLeavesState and CheckedStartSeedsChecksum. -/
theorem witness_CheckedSeekingStart :
    checked0.cfg.dialect = .checksummed ∧ checked0.mode = .seekingStart ∧ (0xFF : Byte) ≠ 0x02 := by
  decide

/-- For CheckedAppendFoldsByte, CheckedEndAwaitsChecksum and CheckedOverflowRaises. -/
theorem witness_CheckedAccumulating :
    (checkedIn [0x31, 0x31, 0x41]).cfg.dialect = .checksummed ∧
    (checkedIn [0x31, 0x31, 0x41]).mode = .accumulating ∧
    (checkedIn [0x31, 0x31, 0x41]).buffer.length < (checkedIn [0x31, 0x31, 0x41]).cfg.maxFrameLen ∧
    (checkedIn [0x31, 0x31, 0x41, 0x42]).mode = .accumulating ∧ (0x02 : Byte) ≠ 0x03 ∧
    (checkedIn [0x31, 0x31, 0x41, 0x42]).buffer.length =
      (checkedIn [0x31, 0x31, 0x41, 0x42]).cfg.maxFrameLen := by decide

theorem witness_ChecksumMismatchRaises :
    (checkedEndOf [] none).cfg.dialect = .checksummed ∧
    (checkedEndOf [] none).mode = .seekingChecksum ∧ (0x00 : Byte) ≠ (checkedEndOf [] none).cks := by
  decide

theorem witness_ShortFrameIsUnknown :
    (checkedEndOf [0x31] none).cfg.dialect = .checksummed ∧
    (checkedEndOf [0x31] none).mode = .seekingChecksum ∧
    (checkedEndOf [0x31] none).buffer.length < 2 ∧ (checkedEndOf [] none).buffer.length < 2 := by decide

/-- V-C18: number 2, repeat flag set, the last frame's flag clear. -/
theorem witness_DuplicateIsSilentlyDiscarded :
    (checkedEndOf [0x31, 0x0A] (some 0x32)).cfg.dialect = .checksummed ∧
    (checkedEndOf [0x31, 0x0A] (some 0x32)).mode = .seekingChecksum ∧
    (checkedEndOf [0x31, 0x0A] (some 0x32)).buffer = 0x31 :: seqByte 0 true 2 :: [] ∧
    (checkedEndOf [0x31, 0x0A] (some 0x32)).lastSequence = some (seqByte 3 false 2) := by decide

/-- The three ways not to be a duplicate: V-C9b (flag clear), V-C19 (nothing accepted), V-C8 (another
number). -/
theorem witness_NewFrameIsAccepted :
    (checkedEndOf [0x31, 0x31] (some 0x39)).cfg.dialect = .checksummed ∧
    (checkedEndOf [0x31, 0x31] (some 0x39)).mode = .seekingChecksum ∧
    (checkedEndOf [0x31, 0x31] (some 0x39)).buffer = 0x31 :: 0x31 :: [] ∧
    (0x31 : Byte).getLsbD 3 = false ∧ (0x31 : Byte) = seqByte 3 false 1 ∧
    (checkedEndOf [0x31, 0x08] none).buffer = 0x31 :: 0x08 :: [] ∧
    (checkedEndOf [0x31, 0x08] none).lastSequence = none ∧ (0x08 : Byte) = seqByte 0 true 0 ∧
    (checkedEndOf [0x31, 0x3A] (some 0x39)).lastSequence = some 0x39 ∧
    (0x39 : Byte).toNat % 8 ≠ (0x3A : Byte).toNat % 8 := by decide

theorem witness_SequenceRowsNeedVerifiedFrame :
    simple0.cfg.dialect = .simple ∧ checked0.mode ≠ .seekingChecksum ∧
    (checkedEndOf [0x31] none).buffer.length < 2 ∧
    (checkedEndOf [0x31, 0x32] none).buffer[1]? ≠ some (seqByte 3 true 2) ∧
    (checkedEndOf [0x31, 0x3A] none).buffer[1]? ≠ some (seqByte 3 false 2) := by decide

/-- For EncodedFrameRoundTrip and FrameAcceptedFirstTimeIsThenSuppressed. -/
theorem witness_EncodedFrameRoundTrip :
    checked0.cfg.dialect = .checksummed ∧ checked0.mode = .seekingStart ∧
    (∀ b ∈ ([0x31, 0x31, 0x41, 0x31, 0x30, 0x30, 0x30, 0x52] : List Byte), b ≠ 0x03) ∧
    2 + [0x41, 0x31, 0x30, 0x30, 0x30, 0x52].length ≤ checked0.cfg.maxFrameLen := by decide

/-- V-C12: payload byte 0x31 sent as 0x30. -/
theorem witness_CorruptedByteIsDetected :
    checked0.cfg.dialect = .checksummed ∧ checked0.mode = .seekingStart ∧ (0x31 : Byte) ≠ 0x30 ∧
    (∀ b ∈ ([0x31, 0x31, 0x41] ++ [0x31] ++ [0x30, 0x30, 0x30, 0x52] : List Byte), b ≠ 0x03) ∧
    (0x30 : Byte) ≠ 0x03 ∧
    [0x31, 0x31, 0x41].length + 1 + [0x30, 0x30, 0x30, 0x52].length ≤ checked0.cfg.maxFrameLen := by
  decide

/-- For ValidSetCommandWritesTarget and InvalidSetCommandIsRejected: both ends of the range, the first value
above it, and no number. -/
theorem witness_SetCommands :
    parseDec [0x32, 0x35, 0x35] = some 255 ∧ parseDec [0x30] = some 0 ∧
    parseDec [0x32, 0x35, 0x36] = some 256 ∧ parseDec [] = none ∧ parseDec [0x2D, 0x31] = none := by
  decide

theorem witness_UnknownIsReported :
    (∀ b rest, ([] : List Byte) = b :: rest → b ≠ 0x46 ∧ b ≠ 0x50 ∧ b ≠ 0x51) ∧
    (∀ b rest, ([0x66] : List Byte) = b :: rest → b ≠ 0x46 ∧ b ≠ 0x50 ∧ b ≠ 0x51) ∧
    ∃ b rest, ([0x51, 0x31] : List Byte) = b :: rest ∧ (b = 0x46 ∨ b = 0x50 ∨ b = 0x51) := by
  refine ⟨by simp, ?_, 0x51, [0x31], rfl, by decide⟩
  rintro b rest h
  cases h
  decide

/-- A dispatch, a tick that answers, a tick that does not, and an operation that writes no reply. -/
theorem witness_OneReplyPerDispatchAndErrorsKeepTarget :
    isDispatch .replyQuery = true ∧ (∃ t, exec .replyQuery simple0 = .next t) ∧
    (∃ t, exec .tick { simple0 with rx := [0x02, 0x51, 0x03] } = .next t) ∧
    (∃ t, exec .tick simple0 = .next t) ∧
    isDispatch .termEnd = false ∧ ∃ t, exec .termEnd simple0 = .next t :=
  ⟨rfl, ⟨_, rfl⟩, ⟨_, rfl⟩, ⟨_, rfl⟩, rfl, _, rfl⟩

/-- Arguments that are no number, 256, 255 and 0. -/
theorem witness_ReplyFormsAreWritten :
    parseDec [] = none ∧ parseDec [0x32, 0x35, 0x36] = some 256 ∧
    parseDec [0x32, 0x35, 0x35] = some 255 ∧ parseDec [0x30] = some 0 := by decide

theorem witness_TerminatorFollowsParameter :
    simple0.cfg.replyTerm = .fin ∧ { params .simple 8 with replyTerm := .ack }.replyTerm = .ack := by
  decide

theorem witness_AdvanceAtTargetWritesNothing :
    (levels 255 0 255 0).current .fan = (levels 255 0 255 0).target .fan := by decide

theorem witness_AdvanceMovesOneUnit :
    (levels 254 0 255 0).current .fan < (levels 254 0 255 0).target .fan ∧
    (levels 0 1 0 0).target .pump < (levels 0 1 0 0).current .pump := by decide

theorem witness_AdvanceIsIndependent :
    (levels 0 0 255 0).current .fan = { checked0 with targetFan := 255 }.current .fan ∧
    (levels 0 0 255 0).target .fan = { checked0 with targetFan := 255 }.target .fan := by decide

theorem witness_RampConvergesMonotonically :
    (levels 10 0 13 0).current .fan ≤ (levels 10 0 13 0).target .fan ∧
    (levels 13 0 10 0).target .fan ≤ (levels 13 0 10 0).current .fan := by decide

/-- What the reads of a tick leave in pending. -/
def pendingAfterReads (s : State) : Option FrameResult :=
  match ingest s.cfg.burstMax s with
  | .ok m => m.pending
  | .error _ => none

/-- Where the reads leave r in pending, they leave a state. -/
theorem reads_leave {s : State} {r : FrameResult} (h : pendingAfterReads s = some r) :
    ∃ m, ingest s.cfg.burstMax s = .ok m ∧ m.pending = some r := by
  unfold pendingAfterReads at h
  split at h
  · exact ⟨_, ‹_›, h⟩
  · cases h

/-- The two dialects, at a mode the simple one has and at the one it has not. -/
theorem witness_TickRunsAndReadsBoundedBurst :
    ((simpleIn [0x46]).cfg.dialect = .simple → (simpleIn [0x46]).mode ≠ .seekingChecksum) ∧
    ((checkedEndOf [0x31, 0x0A] (some 0x32)).cfg.dialect = .simple →
      (checkedEndOf [0x31, 0x0A] (some 0x32)).mode ≠ .seekingChecksum) := by decide

/-- V-T1: nothing to read, and bytes that end no frame. -/
theorem witness_IdleTickOnlyAdvances :
    (∃ m, ingest simple0.cfg.burstMax simple0 = .ok m ∧ m.pending = none ∧ simple0.rx = []) ∧
    ∃ m, ingest simple0.cfg.burstMax { simple0 with rx := [0x41, 0x02, 0x46] } = .ok m ∧
      m.pending = none := ⟨⟨_, rfl, rfl, rfl⟩, _, rfl, rfl⟩

/-- V-T2: read and held in tick 1, held before in tick 2. -/
theorem witness_SetCommandIsHeldWhileRamping :
    (∃ m, ingest 64 { levels 0 0 0 2 with rx := [0x02, 0x46, 0x31, 0x03] } = .ok m ∧
      m.pending = some (.command .f [0x31])) ∧
    (levels 0 0 0 2).cfg.burstMax = 64 ∧ (levels 0 0 0 2).currentPump ≠ (levels 0 0 0 2).targetPump ∧
    pendingAfterReads { levels 0 1 0 2 with pending := some (.command .f [0x31]) } =
      some (.command .f [0x31]) :=
  ⟨reads_leave (s := { levels 0 0 0 2 with rx := [0x02, 0x46, 0x31, 0x03] }) (by decide), rfl,
    by decide, by decide⟩

/-- V-T2, tick 3, and V-T7: a held command, and a query read and answered in one tick. -/
theorem witness_PendingCommandIsDispatched :
    pendingAfterReads { levels 0 2 0 2 with pending := some (.command .f [0x31]) } =
      some (.command .f [0x31]) ∧
    (levels 0 2 0 2).currentFan = (levels 0 2 0 2).targetFan ∧
    (levels 0 2 0 2).currentPump = (levels 0 2 0 2).targetPump ∧
    pendingAfterReads { levels 0 0 5 0 with rx := [0x02, 0x51, 0x03, 0x02, 0x51, 0x03] } =
      some (.command .q []) := by decide

/-- V-T3: an unknown frame read while the fan ramps, from a state with the invariant; V-T8, tick 2: the frame
behind a silent duplicate. -/
theorem witness_OtherResultsAreReported :
    BlockInv { simple0 with rx := [0x02, 0x58, 0x03], targetFan := 5 } ∧
    pendingAfterReads { simple0 with rx := [0x02, 0x58, 0x03], targetFan := 5 } =
      some (.unknown [0x58]) ∧
    (∀ sel args, FrameResult.unknown [0x58] ≠ .command sel args) ∧
    pendingAfterReads { checked0 with
      lastSequence := some 0x09
      rx := [0x02, 0x31, 0x09, 0x5A, 0x03, 0x63, 0x02, 0x31, 0x0A, 0x5A, 0x03, 0x60] } =
      some (.frame ⟨0x31, 0x0A, [0x5A]⟩) := by
  refine ⟨?_, by decide, by simp, by decide⟩
  obtain ⟨h1, h2, h3, h4, h5, h6, h7, h8⟩ := reset_inv
  exact ⟨h1, h2, h3, h4, h5, h6, h7, h8⟩

/-- Tick 1 of program P1 and the same of the pump, with both bounds just large enough. -/
theorem witness_TickServesWaitingSetCommand :
    let s := { State.resetOf { params .simple 4 with burstMax := 6 } with
      rx := [0x02, 0x46] ++ [0x31, 0x32, 0x30] ++ [0x03] ++ [0x02] }
    s.cfg.dialect = .simple ∧ s.mode = .seekingStart ∧ s.pending = none ∧
    s.currentFan = s.targetFan ∧ s.currentPump = s.targetPump ∧
    s.rx = [0x02, 0x46] ++ [0x31, 0x32, 0x30] ++ [0x03] ++ [0x02] ∧
    { s with rx := [0x02, 0x50] ++ [0x31, 0x32, 0x30] ++ [0x03] }.rx =
      [0x02, 0x50] ++ [0x31, 0x32, 0x30] ++ [0x03] ++ [] ∧
    [0x31, 0x32, 0x30].length + 3 ≤ s.cfg.burstMax ∧
    [0x31, 0x32, 0x30].length + 1 ≤ s.cfg.maxFrameLen ∧
    parseDec [0x31, 0x32, 0x30] = some 120 ∧ 120 ≤ 255 := by decide

theorem witness_TickNeverPreemptsRamp :
    ∃ t, exec .tick { simple0 with rx := [0x02, 0x46, 0x31, 0x03] } = .next t ∧
      t.targetFan ≠ simple0.targetFan ∧ atMostOneRamping simple0 := ⟨_, rfl, by decide, by
        simp [atMostOneRamping, simple0, State.resetOf, State.atTarget, State.current, State.target]⟩

theorem witness_HeldCommandIsReleased :
    { levels 1 0 3 0 with pending := some (.command .p [0x32]) }.pending = some (.command .p [0x32]) ∧
    ticksToSettle (levels 1 0 3 0) = 2 ∧ ticksToSettle (levels 3 2 3 2) = 0 := by decide

theorem witness_ChecksummedTickDrivesNothing :
    BlockInv { checkedEndOf [0x31, 0x0A] (some 0x32) with relay := some ⟨0x31, 0x32, []⟩ } ∧
    { checkedEndOf [0x31, 0x0A] (some 0x32) with relay := some ⟨0x31, 0x32, []⟩ }.settled = true ∧
    ∃ t, exec .tick { checkedEndOf [0x31, 0x0A] (some 0x32) with relay := some ⟨0x31, 0x32, []⟩ } =
      .next t := ⟨checked_inv, by decide, _, rfl⟩

end Sys2Proof.Tests
end

section
/-! The simple decoder (40_decoder_simple.md): its rows as equations, its steps, and what its results
say about the bytes received so far. -/

namespace Sys2Proof.SimpleDecoder

open Sys2Proof Sys2Proof.Machine Sys2Proof.Safety

/-! ## Rows that are selected -/

theorem inSimple_eq_true {s : State} {m : Mode} (hd : s.cfg.dialect = .simple) (hm : s.mode = m) :
    s.inSimple m = true := by simp [State.inSimple, hd, hm]

theorem full_eq_false_iff (s : State) : s.full = false ↔ s.buffer.length < s.cfg.maxFrameLen := by
  simp [State.full]

theorem whenRow_selected {sel : Bool} (x : Fed) (h : sel = true) :
    whenRow sel x = .next (x.1.logReturn (.feed x.2)) := by rw [h, whenRow_true, deliver_eq]

theorem exec_feedSStart {s : State} (hd : s.cfg.dialect = .simple) (hm : s.mode = .seekingStart) :
    exec .feedSStart s = .next ((simpleStart s).1.logReturn (.feed none)) :=
  whenRow_selected _ (inSimple_eq_true hd hm)

theorem exec_feedSDiscard {b : Byte} {s : State} (hd : s.cfg.dialect = .simple)
    (hm : s.mode = .seekingStart) (hb : b ≠ START) :
    exec (.feedSDiscard b) s = .next (s.logReturn (.feed none)) :=
  whenRow_selected (simpleDiscard s) (by simp [inSimple_eq_true hd hm, hb])

theorem exec_feedSEnd {s : State} (hd : s.cfg.dialect = .simple) (hm : s.mode = .accumulating) :
    exec .feedSEnd s = .next (s.ready.logReturn (.feed (some (classify s.buffer)))) :=
  whenRow_selected (simpleEnd s) (inSimple_eq_true hd hm)

theorem exec_feedSAppend {b : Byte} {s : State} (hd : s.cfg.dialect = .simple)
    (hm : s.mode = .accumulating) (hb : b ≠ END) (hf : s.full = false) :
    exec (.feedSAppend b) s = .next ((s.memAppend b).logReturn (.feed none)) :=
  whenRow_selected (simpleAppend b s) (by simp [inSimple_eq_true hd hm, hb, hf])

/-! ## Classification -/

/-- The whitelist of 30_encoding.md R73, read backwards. -/
theorem selectorOf_byte (sel : Selector) : selectorOf sel.byte = some sel := by
  cases sel <;> decide

theorem classify_selector (sel : Selector) (args : List Byte) :
    classify (sel.byte :: args) = .command sel args := by
  simp [classify, selectorOf_byte]

/-! ## What the decoder has received -/

/-- A decoder inside a frame has received that frame's START and, after it, exactly the buffered bytes. -/
def OpenedIn (received : List Byte) (s : State) : Prop :=
  s.mode = .accumulating → ∃ before, received = before ++ [START] ++ s.buffer

/-- The bytes received so far end in a whole frame, and the result is what its body classifies to. -/
def FrameEnds (received : List Byte) (r : FrameResult) : Prop :=
  ∃ before body, received = before ++ [START] ++ body ++ [END] ∧ r = classify body

theorem openedIn_of_seeking {received : List Byte} {s : State} (h : s.mode = .seekingStart) :
    OpenedIn received s := fun ha => by simp [h] at ha

theorem openedIn_logReturn {received : List Byte} {s : State} (v : ReturnValue) :
    OpenedIn received (s.logReturn v) ↔ OpenedIn received s := Iff.rfl

/-- One byte of FEED_S: only START opens a frame, only END surfaces one (40_decoder_simple.md R111). -/
theorem feedSimple_openedIn {received : List Byte} {b : Byte} {s : State} {x : Fed}
    (ho : OpenedIn received s) (h : feedSimple b s = .ok x) :
    OpenedIn (received ++ [b]) x.1 ∧
      ∀ r, x.2 = some r → r ≠ .frameTooLong → FrameEnds (received ++ [b]) r := by
  rcases feedSimple_cases h with
    ⟨-, rfl, rfl⟩ | ⟨hm, -, rfl⟩ | ⟨hm, rfl, rfl⟩ | ⟨-, -, -, rfl⟩ | ⟨hm, -, -, rfl⟩
  · -- case start
    exact ⟨fun _ => ⟨received, by simp [simpleStart]⟩, by simp [simpleStart]⟩
  · -- case discard
    exact ⟨openedIn_of_seeking hm, by simp [simpleDiscard]⟩
  · -- case end
    obtain ⟨before, hr⟩ := ho hm
    refine ⟨openedIn_of_seeking rfl, fun r hx _ => ⟨before, s.buffer, by rw [hr], ?_⟩⟩
    exact (Option.some.inj hx).symm
  · -- case overflow
    exact ⟨openedIn_of_seeking rfl, fun r hx hl => absurd (Option.some.inj hx).symm hl⟩
  · -- case append
    obtain ⟨before, hr⟩ := ho hm
    exact ⟨fun _ => ⟨before, by simp [simpleAppend, State.memAppend, hr]⟩, by simp [simpleAppend]⟩

theorem feedAll_cons_ok {b : Byte} {bs : List Byte} {s t : State} (h : feedAll (b :: bs) s = .ok t) :
    ∃ x, feed b s = .ok x ∧ feedAll bs (x.1.logReturn (.feed x.2)) = .ok t := by
  cases hx : feed b s with
  | error r => simp [feedAll, hx] at h
  | ok x => exact ⟨x, rfl, by rwa [feedAll_cons bs hx] at h⟩

/-- The induction over the bytes fed, with the bytes received before them carried along. -/
theorem feedAll_surfaces {bs received : List Byte} {s t : State} (hd : s.cfg.dialect = .simple)
    (ho : OpenedIn received s) (h : feedAll bs s = .ok t) :
    ∃ rs, t.returns = s.returns ++ feedResults rs ∧ rs.length = bs.length ∧
      ∀ k r, rs[k]? = some (some r) → r ≠ .frameTooLong →
        FrameEnds (received ++ bs.take (k + 1)) r := by
  induction bs generalizing received s with
  | nil =>
    cases h
    exact ⟨[], by simp [feedResults], rfl, by simp⟩
  | cons b bs ih =>
    obtain ⟨x, hx, ht⟩ := feedAll_cons_ok h
    have hframe : DecoderFrame s x.1 := feed_frame hx
    rw [feed_simple hd] at hx
    obtain ⟨hopen, hends⟩ := feedSimple_openedIn ho hx
    obtain ⟨rs, hret, hlen, hrs⟩ := ih (by rw [logReturn_cfg, hframe.cfg, hd])
      ((openedIn_logReturn _).mpr hopen) ht
    refine ⟨x.2 :: rs, ?_, by simp [hlen], fun k r hk hl => ?_⟩
    · simp [hret, hframe.returns, feedResults]
    · cases k with
      | zero => exact hends r (by simpa using hk) hl
      | succ k => simpa using hrs k r (by simpa using hk) hl

/-! ## The statements -/

/-- Settles O22: by induction on the bytes fed, over the invariant `OpenedIn`. -/
theorem surfacedOnlyBetweenStartAndEnd : Obligations.SurfacedOnlyBetweenStartAndEnd := by
  intro s t bs opened hd hstart h
  have ho : OpenedIn opened s := by
    rcases hstart with ⟨hm, -⟩ | ⟨-, rfl⟩
    · exact openedIn_of_seeking hm
    · exact fun _ => ⟨[], rfl⟩
  exact feedAll_surfaces hd ho h

/-- Settles O14. -/
theorem simpleDiscardLeavesState : Obligations.SimpleDiscardLeavesState :=
  fun _ _ hd hm hb => exec_feedSDiscard hd hm hb

/-- Settles O15. -/
theorem simpleStartOpensFrame : Obligations.SimpleStartOpensFrame :=
  fun _ hd hm => exec_feedSStart hd hm

/-- Settles O16: the three whitelisted bytes are those of the selectors, and END classifies the buffer. -/
theorem simpleEndYieldsCommand : Obligations.SimpleEndYieldsCommand := by
  intro s b sel args hd hm hbuf hb
  have hsel : b = sel.byte := by rcases hb with ⟨rfl, rfl⟩ | ⟨rfl, rfl⟩ | ⟨rfl, rfl⟩ <;> rfl
  rw [exec_feedSEnd hd hm, hbuf, hsel, classify_selector]
  rfl

/-- Settles O18: the one store of 20_memory.md R53, read back. -/
theorem simpleAppendStoresByte : Obligations.SimpleAppendStoresByte := by
  intro s b hd hm hb hroom
  exact ⟨_, exec_feedSAppend hd hm hb ((full_eq_false_iff s).mpr hroom), rfl,
    memRead_memAppend_new s b, memRead_memAppend_old s b⟩

end Sys2Proof.SimpleDecoder
end

section
/-! The checksummed decoder (41_decoder_checksummed.md): the rows that discard, open, close and reject
a frame, as equations over the state's operations. -/

namespace Sys2Proof.ChecksummedDecoder

open Sys2Proof Sys2Proof.Machine Sys2Proof.SimpleDecoder

/-! ## Rows that are selected -/

theorem inChecksummed_eq_true {s : State} {m : Mode} (hd : s.cfg.dialect = .checksummed)
    (hm : s.mode = m) : s.inChecksummed m = true := by simp [State.inChecksummed, hd, hm]

/-- A row whose "when" asks, beyond the mode, for a byte other than one value. -/
theorem inChecksummed_and_bne {s : State} {m : Mode} {b c : Byte} (hd : s.cfg.dialect = .checksummed)
    (hm : s.mode = m) (hb : b ≠ c) : (s.inChecksummed m && b != c) = true := by
  simp [inChecksummed_eq_true hd hm, hb]

/-- FEED_C.DISCARD only reports that there is no result (41_decoder_checksummed.md R121). -/
theorem exec_feedCDiscard {b : Byte} {s : State} (hd : s.cfg.dialect = .checksummed)
    (hm : s.mode = .seekingStart) (hb : b ≠ START) :
    exec (.feedCDiscard b) s = .next (s.logReturn (.feed none)) :=
  whenRow_selected (checkedDiscard s) (inChecksummed_and_bne hd hm hb)

/-- FEED_C.START seeds the checksum with START (R122). -/
theorem exec_feedCStart {s : State} (hd : s.cfg.dialect = .checksummed) (hm : s.mode = .seekingStart) :
    exec .feedCStart s =
      .next ((((s.setMode .accumulating).memClear).setCks START).logReturn (.feed none)) :=
  whenRow_selected (checkedStart s) (inChecksummed_eq_true hd hm)

/-- FEED_C.END folds END into the checksum and leaves the buffer for the checksum byte (R124). -/
theorem exec_feedCEnd {s : State} (hd : s.cfg.dialect = .checksummed) (hm : s.mode = .accumulating) :
    exec .feedCEnd s =
      .next (((s.setCks (s.cks ^^^ END)).setMode .seekingChecksum).logReturn (.feed none)) :=
  whenRow_selected (checkedEnd s) (inChecksummed_eq_true hd hm)

/-- FEED_C.CKS_MISMATCH raises before any look at the buffer (R126; 60_exceptions.md R214). -/
theorem exec_feedCCksMismatch {b : Byte} {s : State} (hd : s.cfg.dialect = .checksummed)
    (hm : s.mode = .seekingChecksum) (hb : b ≠ s.cks) :
    exec (.feedCCksMismatch b) s = .next (s.ready.logReturn (.feed (some .checksumError))) :=
  whenRow_selected (raise .checksumError s) (inChecksummed_and_bne hd hm hb)

/-! ## The statements: each row's equation, with the state's operations written out as fields -/

/-- Settles O25. -/
theorem checkedDiscardLeavesState : Obligations.CheckedDiscardLeavesState :=
  fun _ _ hd hm hb => exec_feedCDiscard hd hm hb

/-- Settles O26. -/
theorem checkedStartSeedsChecksum : Obligations.CheckedStartSeedsChecksum :=
  fun _ hd hm => exec_feedCStart hd hm

/-- Settles O28. -/
theorem checkedEndAwaitsChecksum : Obligations.CheckedEndAwaitsChecksum :=
  fun _ hd hm => exec_feedCEnd hd hm

/-- Settles O30. -/
theorem checksumMismatchRaises : Obligations.ChecksumMismatchRaises :=
  fun _ _ hd hm hb => exec_feedCCksMismatch hd hm hb

end Sys2Proof.ChecksummedDecoder
end

section
/-! The ramp controller (43_ramp.md): ADVANCE as three functions of current[a] and target[a] alone,
and what it leaves unchanged. -/

namespace Sys2Proof.Ramp

open Sys2Proof Sys2Proof.Machine

/-! ## What one call decides, from the two levels alone -/

/-- The level of the actuator after the call. -/
def levelAfter (c t : Level) : Level := if c = t then c else stepToward c t

/-- The writes of the call to actuator a. -/
def writesOf (a : Actuator) (c t : Level) : List ActWrite :=
  if c = t then [] else [⟨a, stepToward c t⟩]

/-- The status of the call. -/
def statusOf (c t : Level) : RampStatus := if c = t then .converged else .stepping

theorem writesOf_actuator {a : Actuator} {c t : Level} : ∀ w ∈ writesOf a c t, w.actuator = a := by
  by_cases h : c = t <;> simp [writesOf, h]

theorem stepToward_of_lt {c t : Level} (h : c < t) : stepToward c t = c + 1 := if_pos h

theorem stepToward_of_gt {c t : Level} (h : t < c) : stepToward c t = c - 1 :=
  if_neg (Nat.lt_asymm h)

/-! ## ADVANCE through them -/

theorem advance_of_eq {a : Actuator} {s : State} (h : s.current a = s.target a) :
    advance a s = (s, .converged) := if_pos h

theorem advance_of_ne {a : Actuator} {s : State} (h : s.current a ≠ s.target a) :
    advance a s = ((s.setCurrent a (stepToward (s.current a) (s.target a))).actWrite a
      (stepToward (s.current a) (s.target a)), .stepping) := if_neg h

theorem advance_status (a : Actuator) (s : State) :
    (advance a s).2 = statusOf (s.current a) (s.target a) := by
  rcases advance_cases a s with ⟨h, e⟩ | ⟨h, e⟩ <;> simp [e, statusOf, h]

theorem advance_acts (a : Actuator) (s : State) :
    (advance a s).1.acts = s.acts ++ writesOf a (s.current a) (s.target a) := by
  rcases advance_cases a s with ⟨h, e⟩ | ⟨h, e⟩ <;> simp [e, writesOf, h]

theorem advance_current_same (a : Actuator) (s : State) :
    (advance a s).1.current a = levelAfter (s.current a) (s.target a) := by
  rcases advance_cases a s with ⟨h, e⟩ | ⟨h, e⟩ <;> rw [e]
  · exact (if_pos h).symm
  · exact (current_setCurrent_same s a _).trans (if_neg h).symm

theorem advance_current_of_ne {a b : Actuator} (h : b ≠ a) (s : State) :
    (advance a s).1.current b = s.current b := by
  rcases advance_cases a s with ⟨-, e⟩ | ⟨-, e⟩ <;> rw [e]
  exact current_setCurrent_other s a b _ h

theorem advance_returns (a : Actuator) (s : State) : (advance a s).1.returns = s.returns := by
  rw [advance_frame]

/-- ADVANCE as an instruction always answers (43_ramp.md R187), with the status of the two levels. -/
theorem exec_advance (a : Actuator) (s : State) : exec (.advance a) s =
    .next ((advance a s).1.logReturn (.ramp (statusOf (s.current a) (s.target a)))) := by
  rw [← advance_status]; rfl

theorem exec_advance_of_eq {a : Actuator} {s : State} (h : s.current a = s.target a) :
    exec (.advance a) s = .next (s.logReturn (.ramp .converged)) := by
  rw [exec_advance, advance_of_eq h, statusOf, if_pos h]

theorem exec_advance_of_ne {a : Actuator} {s : State} (h : s.current a ≠ s.target a) :
    exec (.advance a) s = .next (((s.setCurrent a (stepToward (s.current a) (s.target a))).actWrite a
      (stepToward (s.current a) (s.target a))).logReturn (.ramp .stepping)) := by
  rw [exec_advance, advance_of_ne h, statusOf, if_neg h]

/-- The whole of what a call of ADVANCE may write: `advance_frame` with the returned status. -/
theorem advance_logReturn_frame (a : Actuator) (s : State) (v : ReturnValue) :
    (advance a s).1.logReturn v = { s with
      currentFan := (advance a s).1.currentFan, currentPump := (advance a s).1.currentPump,
      acts := (advance a s).1.acts, returns := (advance a s).1.returns ++ [v] } := by
  rw [advance_returns]
  exact congrArg (·.logReturn v) (advance_frame a s)

/-! ## The statements -/

/-- Settles O49: the level, the writes and the status are functions of the two levels on which the
states agree. -/
theorem advanceIsIndependent : Obligations.AdvanceIsIndependent := by
  intro s s' a hc ht
  refine ⟨_, _, writesOf a (s.current a) (s.target a), statusOf (s.current a) (s.target a),
    exec_advance a s, exec_advance a s', ?level, advance_acts a s, ?acts, writesOf_actuator,
    ?returns, ?returns', fun b hb => advance_current_of_ne hb s, advance_logReturn_frame a s _⟩
  case level =>
    calc (advance a s).1.current a = levelAfter (s.current a) (s.target a) := advance_current_same a s
      _ = levelAfter (s'.current a) (s'.target a) := by rw [hc, ht]
      _ = (advance a s').1.current a := (advance_current_same a s').symm
  case acts => rw [hc, ht]; exact advance_acts a s'
  case returns => rw [logReturn_returns, advance_returns]
  case returns' => rw [logReturn_returns, advance_returns, hc, ht]

/-- Settles O47. -/
theorem advanceAtTargetWritesNothing : Obligations.AdvanceAtTargetWritesNothing :=
  fun _ _ h => exec_advance_of_eq h

/-- Settles O48: in both directions the new level is the one `stepToward` gives. -/
theorem advanceMovesOneUnit : Obligations.AdvanceMovesOneUnit := by
  intro s a v h
  have step : exec (.advance a) s =
      .next (((s.setCurrent a v).actWrite a v).logReturn (.ramp .stepping)) := by
    rcases h with ⟨hlt, rfl⟩ | ⟨hgt, rfl⟩
    · rw [exec_advance_of_ne (BitVec.ne_of_lt hlt), stepToward_of_lt hlt]
    · rw [exec_advance_of_ne (BitVec.ne_of_lt hgt).symm, stepToward_of_gt hgt]
  exact ⟨by rintro rfl; exact step, by rintro rfl; exact step⟩

end Sys2Proof.Ramp
end

section
/-! Decimal text (00_scope.md R13): parse_dec as a sum over the places, and dec as its shortest spelling. -/

namespace Sys2Proof.DecimalText

open Sys2Proof

/-! ## Digits -/

theorem isDigit_iff (b : Byte) : isDigit b = true ↔ 0x30 ≤ b.toNat ∧ b.toNat ≤ 0x39 := by
  simp [isDigit]

theorem digitValue_lt {b : Byte} (h : isDigit b = true) : digitValue b < 10 := by
  rw [isDigit_iff] at h
  unfold digitValue
  omega

theorem digitByte_toNat {n : Nat} (h : n < 10) : (digitByte n).toNat = 0x30 + n := by
  rw [digitByte, BitVec.toNat_ofNat]
  omega

theorem isDigit_digitByte {n : Nat} (h : n < 10) : isDigit (digitByte n) = true := by
  rw [isDigit_iff, digitByte_toNat h]
  omega

theorem digitValue_digitByte {n : Nat} (h : n < 10) : digitValue (digitByte n) = n := by
  rw [digitValue, digitByte_toNat h]
  omega

theorem digitByte_digitValue {b : Byte} (h : isDigit b = true) : digitByte (digitValue b) = b := by
  apply BitVec.eq_of_toNat_eq
  rw [digitByte_toNat (digitValue_lt h), digitValue]
  rw [isDigit_iff] at h
  omega

/-! ## Places -/

/-- A digit at the front adds its value at the place of the digits behind it. -/
theorem foldl_digits (bs : List Byte) (n : Nat) :
    bs.foldl (fun n b => 10 * n + digitValue b) n = n * 10 ^ bs.length + decValue bs := by
  induction bs generalizing n with
  | nil => simp [decValue]
  | cons b bs ih =>
    rw [decValue, List.foldl_cons, List.foldl_cons, ih, ih (10 * 0 + digitValue b), List.length_cons]
    ring

theorem decValue_cons (b : Byte) (bs : List Byte) :
    decValue (b :: bs) = digitValue b * 10 ^ bs.length + decValue bs := by
  rw [decValue, List.foldl_cons, foldl_digits]
  simp

@[simp] theorem decValue_nil : decValue [] = 0 := rfl

theorem decValue_eq_sum (bs : List Byte) : decValue bs =
    ∑ k : Fin bs.length, ((bs.get k).toNat - 0x30) * 10 ^ (bs.length - 1 - k.val) := by
  induction bs with
  | nil => rfl
  | cons b bs ih =>
    rw [decValue_cons, ih]
    simp only [List.length_cons, Fin.sum_univ_succ]
    congr 1
    refine Finset.sum_congr rfl fun k _ => ?_
    have place : bs.length + 1 - 1 - (k.succ : Fin (bs.length + 1)).val = bs.length - 1 - k.val := by
      rw [Fin.val_succ]; omega
    rw [place]
    rfl

theorem decValue_lt {bs : List Byte} (h : bs.all isDigit = true) : decValue bs < 10 ^ bs.length := by
  induction bs with
  | nil => simp
  | cons b bs ih =>
    rw [List.all_cons, Bool.and_eq_true] at h
    have hb := digitValue_lt h.1
    have hbs := ih h.2
    calc decValue (b :: bs) = digitValue b * 10 ^ bs.length + decValue bs := decValue_cons b bs
      _ < (digitValue b + 1) * 10 ^ bs.length := by rw [add_mul]; omega
      _ ≤ 10 * 10 ^ bs.length := Nat.mul_le_mul_right _ hb
      _ = 10 ^ (b :: bs).length := by rw [List.length_cons]; ring

/-! ## parse_dec -/

theorem parseDec_eq_some_iff {bs : List Byte} {n : Nat} :
    parseDec bs = some n ↔ bs ≠ [] ∧ bs.all isDigit = true ∧ decValue bs = n := by
  simp [parseDec, Option.ite_none_right_eq_some, and_assoc]

theorem parseDec_eq_none_iff {bs : List Byte} :
    parseDec bs = none ↔ bs = [] ∨ ∃ b ∈ bs, ¬ isDigit b = true := by
  simp [parseDec, imp_iff_not_or]

/-! ## dec -/

theorem dec_of_lt_ten {v : Level} (h : v.toNat < 10) : dec v = [digitByte v.toNat] := if_pos h

theorem dec_of_lt_hundred {v : Level} (h : 10 ≤ v.toNat) (h' : v.toNat < 100) :
    dec v = [digitByte (v.toNat / 10), digitByte (v.toNat % 10)] := by
  simp [dec, h', Nat.not_lt.mpr h]

theorem dec_of_ge_hundred {v : Level} (h : 100 ≤ v.toNat) : dec v =
    [digitByte (v.toNat / 100), digitByte (v.toNat / 10 % 10), digitByte (v.toNat % 10)] := by
  simp [dec, Nat.not_lt.mpr h, show ¬ v.toNat < 10 by omega]

/-- The three lengths of dec, each with the range of its levels. -/
theorem dec_cases (v : Level) :
    (v.toNat < 10 ∧ dec v = [digitByte v.toNat]) ∨
    (10 ≤ v.toNat ∧ v.toNat < 100 ∧ dec v = [digitByte (v.toNat / 10), digitByte (v.toNat % 10)]) ∨
    (100 ≤ v.toNat ∧ dec v =
      [digitByte (v.toNat / 100), digitByte (v.toNat / 10 % 10), digitByte (v.toNat % 10)]) := by
  by_cases h : v.toNat < 10
  · exact .inl ⟨h, dec_of_lt_ten h⟩
  · by_cases h' : v.toNat < 100
    · exact .inr (.inl ⟨by omega, h', dec_of_lt_hundred (by omega) h'⟩)
    · exact .inr (.inr ⟨by omega, dec_of_ge_hundred (by omega)⟩)

theorem dec_ne_nil (v : Level) : dec v ≠ [] := by
  rcases dec_cases v with ⟨-, e⟩ | ⟨-, -, e⟩ | ⟨-, e⟩ <;> simp [e]

theorem dec_all_isDigit (v : Level) : (dec v).all isDigit = true := by
  have hv := v.isLt
  rcases dec_cases v with ⟨h, e⟩ | ⟨-, h, e⟩ | ⟨-, e⟩ <;> rw [e] <;>
    simp only [List.all_cons, List.all_nil, Bool.and_true, Bool.and_eq_true]
  · exact isDigit_digitByte h
  · exact ⟨isDigit_digitByte (by omega), isDigit_digitByte (by omega)⟩
  · exact ⟨isDigit_digitByte (by omega), isDigit_digitByte (by omega), isDigit_digitByte (by omega)⟩

theorem decValue_dec (v : Level) : decValue (dec v) = v.toNat := by
  have hv := v.isLt
  rcases dec_cases v with ⟨h, e⟩ | ⟨-, h, e⟩ | ⟨-, e⟩ <;> rw [e] <;> simp only [decValue_cons, decValue_nil]
  · rw [digitValue_digitByte h]; simp
  · rw [digitValue_digitByte (by omega), digitValue_digitByte (by omega)]; simp; omega
  · rw [digitValue_digitByte (by omega), digitValue_digitByte (by omega), digitValue_digitByte (by omega)]
    simp; omega

theorem parseDec_dec (v : Level) : parseDec (dec v) = some v.toNat :=
  parseDec_eq_some_iff.mpr ⟨dec_ne_nil v, dec_all_isDigit v, decValue_dec v⟩

/-- dec gives as many digits as the level needs. -/
theorem dec_length_le {v : Level} {n : Nat} (hn : n ≠ 0) (h : v.toNat < 10 ^ n) : (dec v).length ≤ n := by
  rcases dec_cases v with ⟨-, e⟩ | ⟨hv, -, e⟩ | ⟨hv, e⟩ <;> rw [e]
  · exact Nat.one_le_iff_ne_zero.mpr hn
  · have : 10 ^ 1 < 10 ^ n := by omega
    exact (Nat.pow_lt_pow_iff_right (by decide)).mp this
  · have : 10 ^ 2 < 10 ^ n := by omega
    exact (Nat.pow_lt_pow_iff_right (by decide)).mp this

/-- Digits of the same number and of the same value are the same digits. -/
theorem digits_eq_of_decValue_eq {xs ys : List Byte} (hx : xs.all isDigit = true)
    (hy : ys.all isDigit = true) (hl : xs.length = ys.length) (hv : decValue xs = decValue ys) :
    xs = ys := by
  induction xs generalizing ys with
  | nil => exact (List.length_eq_zero_iff.mp hl.symm).symm
  | cons x xs ih =>
    cases ys with
    | nil => cases hl
    | cons y ys =>
      rw [List.all_cons, Bool.and_eq_true] at hx hy
      have hlen : xs.length = ys.length := by simpa using hl
      rw [decValue_cons, decValue_cons, hlen] at hv
      have hxs : decValue xs < 10 ^ ys.length := hlen ▸ decValue_lt hx.2
      have hys : decValue ys < 10 ^ ys.length := decValue_lt hy.2
      have hpos : 0 < 10 ^ ys.length := by positivity
      have hd : digitValue x = digitValue y := by
        have := congrArg (· / 10 ^ ys.length) hv
        simpa [Nat.add_comm _ (decValue _), Nat.add_mul_div_right _ _ hpos, Nat.div_eq_of_lt hxs,
          Nat.div_eq_of_lt hys] using this
      have head : x = y := by rw [← digitByte_digitValue hx.1, hd, digitByte_digitValue hy.1]
      rw [head, ih hx.2 hy.2 hlen (by rw [hd] at hv; omega)]

/-! ## The statement -/

/-- Settles O5: the fold is the sum by places, and digits are determined by their number and value. -/
theorem decimalTextRoundTrip : Obligations.DecimalTextRoundTrip := by
  refine ⟨fun bs hne hd => ?sum, fun bs h => ?none, parseDec_dec, fun v bs h => ?shortest⟩
  case sum =>
    rw [parseDec_eq_some_iff, ← decValue_eq_sum]
    exact ⟨hne, List.all_eq_true.mpr fun b hb => (isDigit_iff b).mpr (hd b hb), rfl⟩
  case none => simpa only [parseDec_eq_none_iff, isDigit_iff] using h
  case shortest =>
    obtain ⟨hne, hd, hv⟩ := parseDec_eq_some_iff.mp h
    have hlt : v.toNat < 10 ^ bs.length := hv ▸ decValue_lt hd
    exact ⟨dec_length_le (by simpa using hne) hlt, fun hl =>
      digits_eq_of_decValue_eq hd (dec_all_isDigit v) hl (by rw [hv, decValue_dec])⟩

end Sys2Proof.DecimalText
end

section
/-! The words (30_encoding.md sections 2 to 6 and 10): the RXBYTE rows, each format's decoder against the
encoder's layout, and the words of the opcode table. -/

namespace Sys2Proof.Words

open Sys2Proof Sys2Proof.SimpleDecoder

/-! ## Fields -/

/-- A selector's byte is the only one that reads as it (30_encoding.md R73). -/
theorem selectorOf_eq_some_iff {b : Byte} {sel : Selector} : selectorOf b = some sel ↔ b = sel.byte := by
  constructor
  · intro h
    unfold selectorOf at h
    split at h
    · cases h; assumption
    · split at h
      · cases h; assumption
      · split at h <;> cases h; assumption
  · rintro rfl; exact selectorOf_byte sel

theorem isUnknown_cons (b : Byte) (bs : List Byte) : isUnknown (b :: bs) = (selectorOf b).isNone := rfl

/-- The three fields of a sequence byte (30_encoding.md R76) read back. -/
theorem seqByte_fields : ∀ (upper : BitVec 4) (flag : Bool) (number : BitVec 3),
    seqUpper (seqByte upper flag number) = upper ∧ repeatFlag (seqByte upper flag number) = flag ∧
      seqNumber (seqByte upper flag number) = number := by decide

theorem seqByte_eta : ∀ q : Byte, seqByte (seqUpper q) (repeatFlag q) (seqNumber q) = q := by decide

theorem seqByte_repeat_ne_end : ∀ (upper : BitVec 4) (number : BitVec 3),
    seqByte upper true number ≠ END := by decide

/-! ## The RXBYTE rows -/

/-- The row of an instruction in the table of the byte it carries: its "when" is `selected`. -/
theorem mem_rxRows {c : Ctx} {i : Instr} {b : Byte} (h : encode c i = ⟨.rxByte, [b]⟩) :
    (i.selected c, i) ∈ rxRows c b := by
  cases i <;> simp only [encode, Call.mk.injEq, List.cons.injEq, and_true, reduceCtorEq, false_and] at h
  all_goals obtain ⟨-, rfl⟩ := h; simp [rxRows, Instr.selected]

/-- Each entry of the table of a byte whose "when" holds carries that byte, in a well-formed and selected
instruction. -/
theorem of_mem_rxRows {c : Ctx} {i : Instr} {b : Byte} (h : (true, i) ∈ rxRows c b) :
    encode c i = ⟨.rxByte, [b]⟩ ∧ i.wf = true ∧ i.selected c = true := by
  simp only [rxRows, List.mem_cons, Prod.mk.injEq, List.not_mem_nil, or_false] at h
  rcases h with ⟨h, rfl⟩ | ⟨h, rfl⟩ | ⟨h, rfl⟩ | ⟨h, rfl⟩ | ⟨h, rfl⟩ | ⟨h, rfl⟩ | ⟨h, rfl⟩ | ⟨h, rfl⟩ |
    ⟨h, rfl⟩ | ⟨h, rfl⟩ | ⟨h, rfl⟩ | ⟨h, rfl⟩ | ⟨h, rfl⟩ | ⟨h, rfl⟩ <;>
  simp_all [encode, Instr.wf, Instr.selected]

/-- The modes of a dialect: the simple one has no SeekingChecksum (40_decoder_simple.md R110). -/
def HasMode (c : Ctx) : Prop := c.cfg.dialect = .simple → c.mode ≠ .seekingChecksum

/-- The "when" column splits each mode of each dialect (30_encoding.md R86). -/
theorem rxRows_filter {c : Ctx} (h : HasMode c) (b : Byte) :
    ∃ r, (rxRows c b).filter (fun x => x.1) = [r] := by
  cases hd : c.cfg.dialect <;> cases hm : c.mode <;>
    simp only [rxRows, Ctx.inSimple, Ctx.inChecksummed, hd, hm, List.filter_cons, List.filter_nil,
      reduceCtorEq, beq_iff_eq, Bool.true_and, beq_self_eq_true, ne_eq, Bool.and_eq_true, bne_iff_ne]
  case simple.seekingStart => by_cases hb : b = START <;> simp [hb]
  case simple.accumulating => by_cases hb : b = END <;> cases hf : c.full <;> simp [hb]
  case simple.seekingChecksum => exact absurd hm (h hd)
  case checksummed.seekingStart => by_cases hb : b = START <;> simp [hb]
  case checksummed.accumulating => by_cases hb : b = END <;> cases hf : c.full <;> simp [hb]
  case checksummed.seekingChecksum =>
    by_cases hb : b = c.cks
    · by_cases hl : c.buffer.length < 2
      · simp [hb, hl, Nat.not_le.mpr hl]
      · cases hdup : c.isDuplicate <;> simp [hb, hl, Nat.not_lt.mp hl]
    · simp [hb]

theorem decodeRx_of_filter {c : Ctx} {b : Byte} {r : Bool × Instr}
    (h : (rxRows c b).filter (fun x => x.1) = [r]) : decodeRx c b = .ok r.2 := by
  have hf : (rxRows c b).find? (fun x => x.1) = some r := by rw [← List.head?_filter, h]; rfl
  rw [decodeRx, hf]

theorem decodeRx_ok {c : Ctx} {b : Byte} {i : Instr} (h : decodeRx c b = .ok i) :
    (true, i) ∈ rxRows c b := by
  unfold decodeRx at h
  split at h
  · rename_i r hr
    have hsel : r.1 = true := List.find?_some (p := fun x : Bool × Instr => x.1) hr
    cases h
    rw [← hsel]
    exact List.mem_of_find?_eq_some hr
  · cases h

/-- A selected RXBYTE row is that of a mode its dialect has. -/
theorem hasMode_of_selected {c : Ctx} {i : Instr} {b : Byte} (he : encode c i = ⟨.rxByte, [b]⟩)
    (h : i.selected c = true) : HasMode c := by
  intro hd hm
  cases i <;> simp [encode] at he <;> simp [Instr.selected, Ctx.inSimple, Ctx.inChecksummed, hd, hm] at h

/-- The byte's one row is the selected one. -/
theorem decodeRx_of_selected {c : Ctx} {i : Instr} {b : Byte} (he : encode c i = ⟨.rxByte, [b]⟩)
    (h : i.selected c = true) : decodeRx c b = .ok i := by
  obtain ⟨r, hr⟩ := rxRows_filter (hasMode_of_selected he h) b
  have hi : (i.selected c, i) ∈ (rxRows c b).filter (fun x => x.1) := List.mem_filter.mpr ⟨mem_rxRows he, h⟩
  rw [hr, List.mem_singleton] at hi
  rw [decodeRx_of_filter hr, ← hi]

/-- Settles O4: the one row whose "when" holds is the first, which decode takes. -/
theorem oneRowPerReceivedByte : Obligations.OneRowPerReceivedByte := by
  intro c b h
  obtain ⟨r, hr⟩ := rxRows_filter h b
  exact ⟨r, hr, decodeRx_of_filter hr⟩

/-! ## Selectors, sequence bytes, terminators -/

/-- The row of a command (30_encoding.md R73). -/
def commandRow : Selector → List Byte → Instr
  | .f, args => .f args
  | .p, args => .p args
  | .q, args => .q args

theorem decodeSelector_byte {sel : Selector} {args : List Byte} (h : noEnd args = true) :
    decodeSelector (sel.byte :: args) = .ok (commandRow sel args) := by
  have hb : noEnd (sel.byte :: args) = true := by
    rw [noEnd, List.all_cons, ← noEnd, h]; cases sel <;> rfl
  cases sel <;> simp [decodeSelector, hb, selectorOf_byte, commandRow]

theorem decodeSelector_unknown {bs : List Byte} (h : noEnd bs = true) (hu : isUnknown bs = true) :
    decodeSelector bs = .ok (.unknown bs) := by
  cases bs with
  | nil => rfl
  | cons b bs =>
    rw [isUnknown_cons, Option.isNone_iff_eq_none] at hu
    simp [decodeSelector, h, hu]

theorem decodeSelector_ok {c : Ctx} {bs : List Byte} {i : Instr} (h : decodeSelector bs = .ok i) :
    encode c i = ⟨.selector, bs⟩ ∧ i.wf = true ∧ i.selected c = true := by
  cases he : noEnd bs with
  | false => simp [decodeSelector, he] at h
  | true =>
    cases bs with
    | nil => cases h; exact ⟨rfl, rfl, rfl⟩
    | cons b args =>
      cases hs : selectorOf b with
      | none =>
        rw [decodeSelector_unknown he (by rw [isUnknown_cons, hs]; rfl)] at h
        cases h
        exact ⟨rfl, by simp [Instr.wf, he, isUnknown_cons, hs], rfl⟩
      | some sel =>
        have hb : b = sel.byte := selectorOf_eq_some_iff.mp hs
        have hargs : noEnd args = true := by
          rw [noEnd, List.all_cons, Bool.and_eq_true] at he; exact he.2
        rw [hb, decodeSelector_byte hargs] at h
        rw [hb]
        cases sel <;> cases h <;> exact ⟨rfl, hargs, rfl⟩

theorem decodeSeq_seqByte {upper : BitVec 4} {flag : Bool} {number : BitVec 3}
    (h : seqByte upper flag number ≠ END) : decodeSeq (seqByte upper flag number) =
      .ok (if flag then .seqRepeat upper number else .seqNew upper number) := by
  obtain ⟨hu, hf, hn⟩ := seqByte_fields upper flag number
  cases flag <;> simp [decodeSeq, h, hu, hf, hn]

theorem decodeSeq_ok {c : Ctx} {q : Byte} {i : Instr} (h : decodeSeq q = .ok i) :
    encode c i = ⟨.seqByte, [q]⟩ ∧ i.wf = true ∧ i.selected c = true := by
  by_cases hq : q = END
  · simp [decodeSeq, hq] at h
  · have he := seqByte_eta q
    rw [← he, decodeSeq_seqByte (he.symm ▸ hq)] at h
    cases hf : repeatFlag q <;> rw [hf] at he h <;> cases h
    · exact ⟨congrArg (fun b => (⟨.seqByte, [b]⟩ : Call)) he, by simpa [Instr.wf, he] using hq, rfl⟩
    · exact ⟨congrArg (fun b => (⟨.seqByte, [b]⟩ : Call)) he, rfl, rfl⟩

theorem decodeTerm_ok {c : Ctx} {b : Byte} {i : Instr} (h : decodeTerm b = .ok i) :
    encode c i = ⟨.replyTerm, [b]⟩ ∧ i.wf = true ∧ i.selected c = true := by
  unfold decodeTerm at h
  split at h
  · rename_i hb; cases h; rw [hb]; exact ⟨rfl, rfl, rfl⟩
  · split at h
    · rename_i hb; cases h; rw [hb]; exact ⟨rfl, rfl, rfl⟩
    · cases h

/-! ## Replies -/

/-- A reply is START, a whitelisted selector, its data and the terminator (30_encoding.md R79). -/
theorem decodeReply_byte (c : Ctx) (sel : Selector) (data : List Byte) :
    decodeReply c (START :: sel.byte :: (data ++ [c.cfg.replyTerm.byte])) =
      match sel.actuator with
      | some a => decodeSetReply a data
      | none => if data = queryData c.cfg.tempSentinel c.fan c.pump then .ok .replyQuery
        else .error .badReply := by
  cases sel <;> simp [decodeReply, selectorOf_byte, Selector.actuator]

/-- What decodes as a reply has that layout. -/
theorem decodeReply_ok {c : Ctx} {bs : List Byte} {i : Instr} (h : decodeReply c bs = .ok i) :
    ∃ (sel : Selector) (data : List Byte),
      bs = START :: sel.byte :: (data ++ [c.cfg.replyTerm.byte]) := by
  unfold decodeReply at h
  split at h
  · rename_i start sel rest
    split at h
    · cases h
    · rename_i hs
      split at h
      · cases h
      · rename_i ht
        rw [not_not] at hs ht
        have hrest : rest.dropLast ++ [c.cfg.replyTerm.byte] = rest :=
          List.dropLast_append_getLast? _ ht
        cases hsel : selectorOf sel with
        | none => simp [hsel] at h
        | some sel' =>
          rw [selectorOf_eq_some_iff] at hsel
          exact ⟨sel', rest.dropLast, by rw [hs, hsel, hrest]⟩
  · cases h

theorem isDigit_errmark : isDigit ERRMARK = false := by decide

theorem decodeSetReply_dec (a : Actuator) (v : Level) :
    decodeSetReply a (dec v) = .ok (.replyAccepted a v) := by
  have hp := DecimalText.parseDec_dec v
  have hv := v.isLt
  cases hd : dec v with
  | nil => exact absurd hd (DecimalText.dec_ne_nil v)
  | cons d args =>
    have hdig : isDigit d = true := by
      have := DecimalText.dec_all_isDigit v
      rw [hd, List.all_cons, Bool.and_eq_true] at this
      exact this.1
    have hne : d ≠ ERRMARK := by
      rintro rfl; rw [isDigit_errmark] at hdig; cases hdig
    rw [hd] at hp
    simp [decodeSetReply, hne, hp, hd, show v.toNat ≤ 255 by omega]

theorem decodeSetReply_rejected {a : Actuator} {args : List Byte} (h : noEnd args = true)
    (hr : rejectable args = true) : decodeSetReply a (ERRMARK :: args) = .ok (.replyRejected a args) := by
  simp [decodeSetReply, h, hr]

/-- The data of a set command's reply is an error mark with its arguments or a level's shortest spelling
(30_encoding.md R80). -/
theorem decodeSetReply_ok {a : Actuator} {data : List Byte} {i : Instr}
    (h : decodeSetReply a data = .ok i) :
    (∃ v, i = .replyAccepted a v ∧ data = dec v) ∨
    (∃ args, i = .replyRejected a args ∧ data = ERRMARK :: args ∧ noEnd args = true ∧
      rejectable args = true) := by
  unfold decodeSetReply at h
  split at h
  · cases h
  · rename_i d args
    split at h
    · rename_i hd
      split at h
      · cases h
      · rename_i he
        split at h <;> cases h
        exact .inr ⟨args, rfl, by rw [hd], by simpa using he, ‹_›⟩
    · split at h
      · split at h <;> cases h
        rename_i hv
        exact .inl ⟨_, rfl, hv.2.symm⟩
      · cases h

theorem decodeReply_encode {c : Ctx} {bs : List Byte} {i : Instr} (h : decodeReply c bs = .ok i) :
    encode c i = ⟨.reply, bs⟩ ∧ i.wf = true ∧ i.selected c = true := by
  obtain ⟨sel, data, rfl⟩ := decodeReply_ok h
  rw [decodeReply_byte] at h
  cases hs : sel.actuator with
  | none =>
    have hq : sel = .q := by cases sel <;> simp [Selector.actuator] at hs ⊢
    rw [hs] at h
    dsimp only at h
    split at h <;> cases h
    rename_i hdata
    exact ⟨by simp [encode, queryReply, hdata, hq], rfl, rfl⟩
  | some a =>
    have ha : sel = a.selector := by
      cases sel <;> cases a <;> simp [Selector.actuator] at hs <;> rfl
    rw [hs] at h
    rcases decodeSetReply_ok h with ⟨v, rfl, rfl⟩ | ⟨args, rfl, rfl, he, hr⟩
    · exact ⟨by simp [encode, acceptedReply, ha], rfl, rfl⟩
    · exact ⟨by simp [encode, rejectedReply, ha], by simp [Instr.wf, he, hr], rfl⟩

/-! ## Frames -/

theorem decodeSFrame_encode {c : Ctx} {bs : List Byte} {i : Instr} (hd : c.cfg.dialect = .simple)
    (h : decodeSFrame bs = .ok i) : encode c i = ⟨.frame, bs⟩ ∧ i.wf = true ∧ i.selected c = true := by
  unfold decodeSFrame at h
  split at h
  · cases h
  · rename_i start rest
    split at h
    · cases h
    · rename_i hs
      split at h
      · cases h
      · rename_i ht
        split at h <;> cases h
        rename_i he
        rw [not_not] at hs ht
        have hrest : rest.dropLast ++ [END] = rest := List.dropLast_append_getLast? _ ht
        exact ⟨by simp [encode, hs, hrest], by simpa [Instr.wf] using he, by simp [Instr.selected, hd]⟩

theorem decodeSFrame_frame {body : List Byte} (h : noEnd body = true) :
    decodeSFrame ([START] ++ body ++ [END]) = .ok (.sframe body) := by
  simp [decodeSFrame, List.getLast?_append, h]

theorem encodeFrame_eq (a q : Byte) (payload : List Byte) : encodeFrame a q payload =
    START :: a :: q :: (payload ++ [END] ++ [xorAll ([START, a, q] ++ payload ++ [END])]) := by
  simp [encodeFrame]

theorem decodeCFrame_encodeFrame {a q : Byte} {payload : List Byte} (n : Nat)
    (h : noEnd (a :: q :: payload) = true) :
    decodeCFrame n (encodeFrame a q payload) = .ok (.cframe n a q payload) := by
  have he := encodeFrame_eq a q payload
  rw [he, decodeCFrame]
  simp only [List.dropLast_concat, h]
  simp [he]

theorem decodeCFrame_ok {n : Nat} {bs : List Byte} {i : Instr} (h : decodeCFrame n bs = .ok i) :
    ∃ a q payload, i = .cframe n a q payload ∧ noEnd (a :: q :: payload) = true ∧
      encodeFrame a q payload = bs := by
  unfold decodeCFrame at h
  split at h
  · dsimp only at h
    split at h
    · cases h
    · split at h
      · cases h
      · rename_i he
        split at h <;> cases h
        exact ⟨_, _, _, rfl, by simpa using he, ‹_›⟩
  · cases h

/-- The SYNC bytes in front of START are counted and dropped (30_encoding.md R78). -/
theorem span_sync (n : Nat) {b : Byte} (bs : List Byte) (h : b ≠ SYNC) :
    (List.replicate n SYNC ++ b :: bs).takeWhile (fun x => x == SYNC) = List.replicate n SYNC ∧
      (List.replicate n SYNC ++ b :: bs).dropWhile (fun x => x == SYNC) = b :: bs := by
  induction n with
  | zero => simp [h]
  | succ n ih => simpa [List.replicate_succ] using ih

theorem decodeFrame_cframe {c : Ctx} {a q : Byte} {payload : List Byte} (n : Nat)
    (hd : c.cfg.dialect = .checksummed) (h : noEnd (a :: q :: payload) = true) :
    decodeFrame c (List.replicate n SYNC ++ encodeFrame a q payload) = .ok (.cframe n a q payload) := by
  obtain ⟨ht, hdrop⟩ := span_sync n (b := START) _ (by decide)
  rw [← encodeFrame_eq a q payload] at ht hdrop
  rw [decodeFrame, hd]
  dsimp only
  rw [ht, hdrop, List.length_replicate, decodeCFrame_encodeFrame n h]

theorem replicate_takeWhile_sync (bs : List Byte) :
    List.replicate (bs.takeWhile (fun b => b == SYNC)).length SYNC = bs.takeWhile (fun b => b == SYNC) := by
  refine (List.eq_replicate_iff.mpr ⟨rfl, fun b hb => ?_⟩).symm
  simpa using List.mem_takeWhile_imp hb

theorem decodeFrame_encode {c : Ctx} {bs : List Byte} {i : Instr} (h : decodeFrame c bs = .ok i) :
    encode c i = ⟨.frame, bs⟩ ∧ i.wf = true ∧ i.selected c = true := by
  cases hd : c.cfg.dialect with
  | simple =>
    rw [decodeFrame, hd] at h
    exact decodeSFrame_encode hd h
  | checksummed =>
    rw [decodeFrame, hd] at h
    obtain ⟨a, q, payload, rfl, he, hb⟩ := decodeCFrame_ok h
    refine ⟨?_, he, by simp [Instr.selected, hd]⟩
    rw [encode, hb, replicate_takeWhile_sync, List.takeWhile_append_dropWhile]

/-! ## Events -/

theorem decodeCommand_ok {c : Ctx} {bs : List Byte} {i : Instr} (h : decodeCommand bs = .ok i) :
    encode c i = ⟨.event .dispatch, bs⟩ ∧ i.wf = true ∧ i.selected c = true := by
  unfold decodeCommand at h
  split at h
  · cases h
  · split at h
    · cases h
    · rename_i hs
      rw [selectorOf_eq_some_iff] at hs
      split at h <;> cases h
      exact ⟨by rw [encode, hs], ‹_›, rfl⟩

theorem decodeEvent_ok {c : Ctx} {e : Event} {bs : List Byte} {i : Instr}
    (h : decodeEvent e bs = .ok i) : encode c i = ⟨.event e, bs⟩ ∧ i.wf = true ∧ i.selected c = true := by
  unfold decodeEvent at h
  split at h
  case h_4 => exact decodeCommand_ok h
  case h_8 => cases h
  all_goals cases h; exact ⟨rfl, rfl, rfl⟩

/-! ## The round trips -/

/-- Settles O1: each format's layout, read back. -/
theorem decodeOfEncodeIsIdentity : Obligations.DecodeOfEncodeIsIdentity := by
  intro c i hwf hsel
  cases i
  case f args => exact decodeSelector_byte (sel := .f) hwf
  case p args => exact decodeSelector_byte (sel := .p) hwf
  case q args => exact decodeSelector_byte (sel := .q) hwf
  case unknown bytes =>
    rw [Instr.wf, Bool.and_eq_true] at hwf
    exact decodeSelector_unknown hwf.1 hwf.2
  case seqRepeat upper number => exact decodeSeq_seqByte (seqByte_repeat_ne_end upper number)
  case seqNew upper number => exact decodeSeq_seqByte (by simpa [Instr.wf] using hwf)
  case replyAccepted a v =>
    have := decodeReply_byte c a.selector (dec v)
    cases a <;> simpa [decode, encode, acceptedReply, Selector.actuator, Actuator.selector,
      decodeSetReply_dec] using this
  case replyRejected a args =>
    rw [Instr.wf, Bool.and_eq_true] at hwf
    have := decodeReply_byte c a.selector (ERRMARK :: args)
    cases a <;> simpa [decode, encode, rejectedReply, Selector.actuator, Actuator.selector,
      decodeSetReply_rejected hwf.1 hwf.2] using this
  case replyQuery =>
    have := decodeReply_byte c .q (queryData c.cfg.tempSentinel c.fan c.pump)
    simpa [decode, encode, queryReply, Selector.actuator] using this
  case sframe body =>
    have hd : c.cfg.dialect = .simple := by simpa [Instr.selected] using hsel
    simp only [decode, encode, decodeFrame, hd]
    exact decodeSFrame_frame hwf
  case cframe n a q payload =>
    exact decodeFrame_cframe n (by simpa [Instr.selected] using hsel) hwf
  case dispatch sel args =>
    have he : noEnd args = true := hwf
    simp [decode, encode, decodeEvent, decodeCommand, selectorOf_byte, he]
  case termEnd => rfl
  case termAck => rfl
  case feedS b => rfl
  case feedC b => rfl
  case encodeC a q payload => rfl
  case advance a => rfl
  case tick => rfl
  case reset => rfl
  all_goals exact decodeRx_of_selected rfl hsel

/-- Settles O2: each format's decoder answers only on the encoder's layout. -/
theorem encodeOfDecodeIsIdentity : Obligations.EncodeOfDecodeIsIdentity := by
  intro c ⟨format, bytes⟩ i h
  unfold decode at h
  dsimp only at h
  split at h
  case h_1 b => exact of_mem_rxRows (decodeRx_ok h)
  case h_3 => exact decodeSelector_ok h
  case h_4 => exact decodeSeq_ok h
  case h_6 => exact decodeTerm_ok h
  case h_8 => exact decodeReply_encode h
  case h_9 => exact decodeFrame_encode h
  case h_10 => exact decodeEvent_ok h
  all_goals cases h

/-- Settles O3: the words of 30_encoding.md and 95_test_vectors.md, evaluated. -/
theorem wordsDecodeAsWritten : Obligations.WordsDecodeAsWritten := by
  unfold Obligations.WordsDecodeAsWritten
  refine ⟨rfl, rfl, rfl, rfl, rfl, rfl, rfl, rfl, rfl, rfl, rfl⟩

end Sys2Proof.Words
end

section
/-! The RXBYTE rows as FEED calls: where a row's "when" holds it does what FEED does with its byte, and it is
refused elsewhere (30_encoding.md R86). -/

namespace Sys2Proof.Rows

open Sys2Proof Sys2Proof.Machine Sys2Proof.Safety Sys2Proof.SimpleDecoder Sys2Proof.ChecksummedDecoder
  Sys2Proof.Words

theorem inSimple_iff {s : State} {m : Mode} :
    s.inSimple m = true ↔ s.cfg.dialect = .simple ∧ s.mode = m := by simp [State.inSimple]

theorem inChecksummed_iff {s : State} {m : Mode} :
    s.inChecksummed m = true ↔ s.cfg.dialect = .checksummed ∧ s.mode = m := by simp [State.inChecksummed]

theorem ctx_isDuplicate {s : State} {a q : Byte} {p : List Byte} (h : s.buffer = a :: q :: p) :
    s.ctx.isDuplicate = duplicate q s.lastSequence := by simp [Ctx.isDuplicate, State.ctx, h]

theorem verifiedFrame_cons {s : State} {a q : Byte} {p : List Byte} (h : s.buffer = a :: q :: p) :
    s.verifiedFrame = some ⟨a, q, p⟩ := by simp [State.verifiedFrame, h]

theorem verifiedFrame_eq_none {s : State} (h : s.buffer.length < 2) : s.verifiedFrame = none := by
  match hb : s.buffer with
  | [] => simp [State.verifiedFrame, hb]
  | [a] => simp [State.verifiedFrame, hb]
  | _ :: _ :: _ => simp [hb] at h

theorem buffer_of_two_le {s : State} (h : 2 ≤ s.buffer.length) : ∃ a q p, s.buffer = a :: q :: p := by
  match hb : s.buffer with
  | [] => simp [hb] at h
  | [a] => simp [hb] at h
  | a :: q :: p => exact ⟨a, q, p, rfl⟩

theorem judgeFrame_cons {s : State} {a q : Byte} {p : List Byte} (h : s.buffer = a :: q :: p) :
    judgeFrame s =
      if duplicate q s.lastSequence then checkedDuplicate s else checkedAccept ⟨a, q, p⟩ s := by
  simp [judgeFrame, verifiedFrame_cons h]

theorem judgeFrame_short {s : State} (h : s.buffer.length < 2) : judgeFrame s = checkedShort s := by
  simp [judgeFrame, verifiedFrame_eq_none h]

/-- FEED of a checksummed block that awaits the checksum byte, on the byte that matches. -/
theorem feed_match {s : State} {b : Byte} (h : s.inChecksummed .seekingChecksum = true) (hb : b = s.cks) :
    feed b s = .ok (judgeFrame s) := by
  obtain ⟨hd, hm⟩ := inChecksummed_iff.mp h
  rw [feed_checksummed hd, hb, feedChecked_match hm]

/-- An RXBYTE row is FEED of its byte, guarded by its "when". -/
theorem exec_byteRow {c : Ctx} {i : Instr} {b : Byte} (he : encode c i = ⟨.rxByte, [b]⟩) (s : State) :
    ∃ x, exec i s = whenRow (i.selected s.ctx) x ∧ (i.selected s.ctx = true → feed b s = .ok x) := by
  cases i <;> simp only [encode, Call.mk.injEq, List.cons.injEq, and_true, reduceCtorEq, false_and] at he
  all_goals
    obtain ⟨-, rfl⟩ := he
    simp only [Instr.selected, ctx_inSimple, ctx_inChecksummed, ctx_full, Bool.and_eq_true, bne_iff_ne,
      Bool.not_eq_true']
  case feedSStart =>
    exact ⟨simpleStart s, rfl, fun h => by
      rw [feed_simple (inSimple_iff.mp h).1, feedSimple_start (inSimple_iff.mp h).2]⟩
  case feedSDiscard b =>
    exact ⟨simpleDiscard s, rfl, fun ⟨h, hb⟩ => by
      rw [feed_simple (inSimple_iff.mp h).1, feedSimple_discard (inSimple_iff.mp h).2 hb]⟩
  case feedSEnd =>
    exact ⟨simpleEnd s, rfl, fun h => by
      rw [feed_simple (inSimple_iff.mp h).1, feedSimple_end (inSimple_iff.mp h).2]⟩
  case feedSOverflow b =>
    exact ⟨simpleOverflow s, rfl, fun ⟨⟨h, hb⟩, hf⟩ => by
      rw [feed_simple (inSimple_iff.mp h).1, feedSimple_overflow (inSimple_iff.mp h).2 hb hf]⟩
  case feedSAppend b =>
    exact ⟨simpleAppend b s, rfl, fun ⟨⟨h, hb⟩, hf⟩ => by
      rw [feed_simple (inSimple_iff.mp h).1, feedSimple_append (inSimple_iff.mp h).2 hb hf]⟩
  case feedCStart =>
    exact ⟨checkedStart s, rfl, fun h => by
      rw [feed_checksummed (inChecksummed_iff.mp h).1, feedChecked_start (inChecksummed_iff.mp h).2]⟩
  case feedCDiscard b =>
    exact ⟨checkedDiscard s, rfl, fun ⟨h, hb⟩ => by
      rw [feed_checksummed (inChecksummed_iff.mp h).1, feedChecked_discard (inChecksummed_iff.mp h).2 hb]⟩
  case feedCEnd =>
    exact ⟨checkedEnd s, rfl, fun h => by
      rw [feed_checksummed (inChecksummed_iff.mp h).1, feedChecked_end (inChecksummed_iff.mp h).2]⟩
  case feedCOverflow b =>
    exact ⟨checkedOverflow s, rfl, fun ⟨⟨h, hb⟩, hf⟩ => by
      rw [feed_checksummed (inChecksummed_iff.mp h).1,
        feedChecked_overflow (inChecksummed_iff.mp h).2 hb hf]⟩
  case feedCAppend b =>
    exact ⟨checkedAppend b s, rfl, fun ⟨⟨h, hb⟩, hf⟩ => by
      rw [feed_checksummed (inChecksummed_iff.mp h).1, feedChecked_append (inChecksummed_iff.mp h).2 hb hf]⟩
  case feedCCksMismatch b =>
    exact ⟨checkedMismatch s, rfl, fun ⟨h, hb⟩ => by
      rw [feed_checksummed (inChecksummed_iff.mp h).1, feedChecked_mismatch (inChecksummed_iff.mp h).2 hb]⟩
  case feedCCksShort b =>
    refine ⟨checkedShort s, rfl, fun ⟨⟨h, hb⟩, hl⟩ => ?_⟩
    rw [feed_match h (eq_of_beq hb), judgeFrame_short (of_decide_eq_true hl)]
  case feedCCksDuplicate b =>
    by_cases hl : s.buffer.length < 2
    · have hl' : ¬ 2 ≤ s.ctx.buffer.length := Nat.not_le.mpr hl
      exact ⟨(s, none), by simp [exec, execFeedCCksDuplicate, verifiedFrame_eq_none hl, hl', whenRow],
        by simp [hl']⟩
    · obtain ⟨a, q, p, hbuf⟩ := buffer_of_two_le (Nat.not_lt.mp hl)
      have hl' : 2 ≤ s.ctx.buffer.length := Nat.not_lt.mp hl
      refine ⟨checkedDuplicate s, ?_, fun ⟨⟨⟨h, hb⟩, _⟩, hdup⟩ => ?_⟩
      · simp [exec, execFeedCCksDuplicate, verifiedFrame_cons hbuf, ctx_isDuplicate hbuf, hl']
        rfl
      · rw [ctx_isDuplicate hbuf] at hdup
        rw [feed_match h (eq_of_beq hb), judgeFrame_cons hbuf, if_pos hdup]
  case feedCCksAccept b =>
    by_cases hl : s.buffer.length < 2
    · have hl' : ¬ 2 ≤ s.ctx.buffer.length := Nat.not_le.mpr hl
      exact ⟨(s, none), by simp [exec, execFeedCCksAccept, verifiedFrame_eq_none hl, hl', whenRow],
        by simp [hl']⟩
    · obtain ⟨a, q, p, hbuf⟩ := buffer_of_two_le (Nat.not_lt.mp hl)
      have hl' : 2 ≤ s.ctx.buffer.length := Nat.not_lt.mp hl
      refine ⟨checkedAccept ⟨a, q, p⟩ s, ?_, fun ⟨⟨⟨h, hb⟩, _⟩, hdup⟩ => ?_⟩
      · simp [exec, execFeedCCksAccept, verifiedFrame_cons hbuf, ctx_isDuplicate hbuf, hl']
        rfl
      · rw [ctx_isDuplicate hbuf] at hdup
        rw [feed_match h (eq_of_beq hb), judgeFrame_cons hbuf, if_neg (by simp [hdup])]

theorem exec_byteRow_selected {c : Ctx} {i : Instr} {b : Byte} {s : State}
    (he : encode c i = ⟨.rxByte, [b]⟩) (h : i.selected s.ctx = true) :
    ∃ x, feed b s = .ok x ∧ exec i s = deliver x := by
  obtain ⟨x, hx, hf⟩ := exec_byteRow he s
  exact ⟨x, hf h, by rw [hx, h, whenRow_true]⟩

theorem exec_byteRow_refused {c : Ctx} {i : Instr} {b : Byte} {s : State}
    (he : encode c i = ⟨.rxByte, [b]⟩) (h : i.selected s.ctx = false) :
    exec i s = .refused .rowNotSelected := by
  obtain ⟨x, hx, -⟩ := exec_byteRow he s
  rw [hx, h]; rfl

theorem isByteRow_iff {i : Instr} :
    isByteRow i = true ↔ ∃ b, encode Ctx.reference i = ⟨.rxByte, [b]⟩ := by
  cases i <;> simp [isByteRow, encode]

/-- Settles O13. -/
theorem byteRowRunsIffSelected : Obligations.ByteRowRunsIffSelected := by
  intro i s hi _
  obtain ⟨b, he⟩ := isByteRow_iff.mp hi
  refine ⟨fun h => ?_, exec_byteRow_refused he⟩
  obtain ⟨x, -, hx⟩ := exec_byteRow_selected he h
  exact ⟨_, hx⟩

/-! ## FEED and the row that its byte selects -/

/-- The row decoded from a byte does what FEED does with that byte (30_encoding.md R86). -/
theorem decoded_row_feeds {s : State} (h : HasMode s.ctx) (b : Byte) :
    ∃ i x, decode s.ctx ⟨.rxByte, [b]⟩ = .ok i ∧ feed b s = .ok x ∧ exec i s = deliver x := by
  obtain ⟨r, hr⟩ := rxRows_filter h b
  have hi := decodeRx_of_filter hr
  obtain ⟨he, -, hsel⟩ := of_mem_rxRows (decodeRx_ok hi)
  obtain ⟨x, hx, hexec⟩ := exec_byteRow_selected he hsel
  exact ⟨r.2, x, hi, hx, hexec⟩

theorem exec_feedS {s : State} {b : Byte} {x : Fed} (hd : s.cfg.dialect = .simple)
    (h : feed b s = .ok x) : exec (.feedS b) s = deliver x := by
  rw [feed_simple hd] at h
  simp [exec, execFeedS, hd, h]

theorem exec_feedC {s : State} {b : Byte} {x : Fed} (hd : s.cfg.dialect = .checksummed)
    (h : feed b s = .ok x) : exec (.feedC b) s = deliver x := by
  rw [feed_checksummed hd] at h
  cases h
  simp [exec, execFeedC, hd]

/-- FEED_S leaves cks, last_sequence and relay alone too (40_decoder_simple.md R112). -/
theorem feedSimple_writes {b : Byte} {s : State} {x : Fed} (h : feedSimple b s = .ok x) :
    x.1 = { s with mode := x.1.mode, buffer := x.1.buffer } := by
  rcases feedSimple_cases h with
    ⟨-, -, rfl⟩ | ⟨-, -, rfl⟩ | ⟨-, -, rfl⟩ | ⟨-, -, -, rfl⟩ | ⟨-, -, -, rfl⟩ <;> rfl

/-- What a DecoderFrame leaves to be written. -/
theorem decoderFrame_eq {s t : State} (h : DecoderFrame s t) : t = { s with
    mode := t.mode, buffer := t.buffer, cks := t.cks, lastSequence := t.lastSequence,
    relay := t.relay } := by
  obtain ⟨h1, h2, h3, h4, h5, h6, h7, h8, h9, h10, h11, h12, h13⟩ := h
  cases t
  simp_all

/-- Settles O20: FEED_S and the decoded row both deliver what `feed` gives. -/
theorem feedSTotalAndOnlyDecoder : Obligations.FeedSTotalAndOnlyDecoder := by
  intro s b hd hm
  obtain ⟨i, x, hi, hx, hexec⟩ := decoded_row_feeds (s := s) (fun _ => hm) b
  refine ⟨_, i, exec_feedS hd hx, ?_, hi, hexec⟩
  rw [feed_simple hd] at hx
  rw [feedSimple_writes hx]
  rfl

/-- Settles O35: FEED_C and the decoded row both deliver what `feed` gives. -/
theorem feedCTotalAndOnlyDecoder : Obligations.FeedCTotalAndOnlyDecoder := by
  intro s b hd
  have hmode : HasMode s.ctx := fun h => absurd (h.symm.trans hd) (by decide)
  obtain ⟨i, x, hi, hx, hexec⟩ := decoded_row_feeds hmode b
  refine ⟨_, i, exec_feedC hd hx, ?_, hi, hexec⟩
  rw [decoderFrame_eq (feed_frame hx)]
  rfl

end Sys2Proof.Rows
end

section
/-! Runs of FEED over a list of bytes (44_tick.md R202): what a run leaves alone, and what direct calls and
the reception of a whole frame add to it. -/

namespace Sys2Proof.Runs

open Sys2Proof Sys2Proof.Machine Sys2Proof.Safety Sys2Proof.SimpleDecoder Sys2Proof.Words

/-- FEED called on each of the bytes in a row: the results and the state left, no result recorded. -/
inductive Feeds : List Byte → State → List (Option FrameResult) → State → Prop
  | nil (s : State) : Feeds [] s [] s
  | cons {b : Byte} {bs : List Byte} {s t : State} {x : Fed} {rs : List (Option FrameResult)}
      (hx : feed b s = .ok x) (h : Feeds bs x.1 rs t) : Feeds (b :: bs) s (x.2 :: rs) t

theorem Feeds.single {b : Byte} {s : State} {x : Fed} (h : feed b s = .ok x) : Feeds [b] s [x.2] x.1 :=
  .cons h (.nil _)

theorem Feeds.append {xs ys : List Byte} {s t u : State} {rs qs : List (Option FrameResult)}
    (h : Feeds xs s rs t) (h' : Feeds ys t qs u) : Feeds (xs ++ ys) s (rs ++ qs) u := by
  induction h with
  | nil => exact h'
  | cons hx _ ih => exact .cons hx (ih h')

theorem Feeds.length {bs : List Byte} {s t : State} {rs : List (Option FrameResult)}
    (h : Feeds bs s rs t) : rs.length = bs.length := by
  induction h with
  | nil => rfl
  | cons _ _ ih => rw [List.length_cons, List.length_cons, ih]

/-! ## What a run leaves alone -/

theorem decoderFrame_refl (s : State) : DecoderFrame s s := by constructor <;> rfl

theorem decoderFrame_trans {s t u : State} (h : DecoderFrame s t) (h' : DecoderFrame t u) :
    DecoderFrame s u := by
  constructor
  · exact h'.cfg.trans h.cfg
  · exact h'.pending.trans h.pending
  · exact h'.currentFan.trans h.currentFan
  · exact h'.currentPump.trans h.currentPump
  · exact h'.targetFan.trans h.targetFan
  · exact h'.targetPump.trans h.targetPump
  · exact h'.rx.trans h.rx
  · exact h'.tx.trans h.tx
  · exact h'.acts.trans h.acts
  · exact h'.results.trans h.results
  · exact h'.ramps.trans h.ramps
  · exact h'.returns.trans h.returns
  · exact h'.inputs.trans h.inputs

theorem Feeds.frame {bs : List Byte} {s t : State} {rs : List (Option FrameResult)}
    (h : Feeds bs s rs t) : DecoderFrame s t := by
  induction h with
  | nil s => exact decoderFrame_refl s
  | cons hx _ ih => exact decoderFrame_trans (feed_frame hx) ih

/-! ## Runs and the ports -/

theorem feed_setRx {b : Byte} {s : State} {x : Fed} (h : feed b s = .ok x) (rx : List Byte) :
    feed b (s.setRx rx) = .ok (x.1.setRx rx, x.2) := by
  refine (feed_ignores_ports b s rx s.returns).trans ?_
  rw [h, ← (feed_frame h).returns]
  rfl

theorem feed_setReturns {b : Byte} {s : State} {x : Fed} (h : feed b s = .ok x)
    (rets : List ReturnValue) :
    feed b { s with returns := rets } = .ok ({ x.1 with returns := rets }, x.2) := by
  refine (feed_ignores_ports b s s.rx rets).trans ?_
  rw [h, ← (feed_frame h).rx]
  rfl

theorem Feeds.setRx {bs : List Byte} {s t : State} {rs : List (Option FrameResult)}
    (h : Feeds bs s rs t) (rx : List Byte) : Feeds bs (s.setRx rx) rs (t.setRx rx) := by
  induction h with
  | nil s => exact .nil _
  | @cons _ _ _ _ x _ hx _ ih => exact Feeds.cons (x := (x.1.setRx rx, x.2)) (feed_setRx hx rx) ih

/-- Direct calls that begin with the given returned values. -/
theorem Feeds.feedAll_setReturns {bs : List Byte} {s t : State} {rs : List (Option FrameResult)}
    (h : Feeds bs s rs t) (rets : List ReturnValue) :
    feedAll bs { s with returns := rets } = .ok { t with returns := rets ++ feedResults rs } := by
  induction h generalizing rets with
  | nil s => simp [feedAll, feedResults]
  | cons hx _ ih =>
    rw [feedAll_cons _ (feed_setReturns hx rets)]
    refine (ih _).trans ?_
    simp [feedResults]

/-- What direct calls add to a run: each result is recorded. -/
theorem Feeds.feedAll {bs : List Byte} {s t : State} {rs : List (Option FrameResult)}
    (h : Feeds bs s rs t) :
    Machine.feedAll bs s = .ok { t with returns := s.returns ++ feedResults rs } :=
  h.feedAll_setReturns s.returns

/-! ## Runs exist -/

theorem hasMode_of_checksummed {s : State} (h : s.cfg.dialect = .checksummed) : HasMode s.ctx :=
  fun hd => absurd (hd.symm.trans h) (by decide)

/-- FEED is refused only in the mode the simple dialect never reaches (40_decoder_simple.md R110). -/
theorem hasMode_of_feed_ok {b : Byte} {s : State} {x : Fed} (h : feed b s = .ok x) : HasMode s.ctx := by
  intro hd hm
  rw [feed_simple hd] at h
  have hm' : s.mode = .seekingChecksum := hm
  simp [feedSimple, hm'] at h

/-- FEED is total on a list of bytes outside that mode. -/
theorem feeds_total {s : State} (h : HasMode s.ctx) (bs : List Byte) :
    ∃ rs t, Feeds bs s rs t := by
  induction bs generalizing s with
  | nil => exact ⟨[], s, .nil s⟩
  | cons b bs ih =>
    obtain ⟨x, hx, hm⟩ := feed_total h b
    obtain ⟨rs, t, hr⟩ := ih hm
    exact ⟨_, t, .cons hx hr⟩

/-- Direct calls that answer are those of a run. -/
theorem feeds_of_feedAll {bs : List Byte} {s t : State} (h : feedAll bs s = .ok t) :
    ∃ rs u, Feeds bs s rs u ∧ t = { u with returns := s.returns ++ feedResults rs } := by
  cases bs with
  | nil => cases h; exact ⟨[], s, .nil s, by simp [feedResults]⟩
  | cons b bs =>
    obtain ⟨x, hx, -⟩ := feedAll_cons_ok h
    obtain ⟨rs, u, hr⟩ := feeds_total (hasMode_of_feed_ok hx) (b :: bs)
    rw [hr.feedAll] at h
    exact ⟨rs, u, hr, (Except.ok.inj h).symm⟩

/-! ## The reception of a frame -/

theorem receive_of_feeds {d : Dialect} {bs : List Byte} {s t : State} {rs : List (Option FrameResult)}
    (hd : s.cfg.dialect = d) (h : Feeds bs s rs t) :
    receive d bs s = .next { t with returns := s.returns ++ feedResults rs } := by
  simp [receive, hd, h.feedAll]

theorem receive_next {d : Dialect} {bs : List Byte} {s t : State} (h : receive d bs s = .next t) :
    ∃ rs u, Feeds bs s rs u ∧ t = { u with returns := s.returns ++ feedResults rs } := by
  unfold receive at h
  split at h
  · split at h
    · cases h
    · cases h; exact feeds_of_feedAll ‹_›
  · cases h

theorem receive_otherDialect {d : Dialect} {s : State} (h : s.cfg.dialect ≠ d) (bs : List Byte) :
    receive d bs s = .refused .otherDialect := if_neg h

/-- A run, received after another one. -/
theorem receive_append {d : Dialect} {xs : List Byte} {s t : State} {rs : List (Option FrameResult)}
    (hd : s.cfg.dialect = d) (h : Feeds xs s rs t) (ys : List Byte) :
    receive d (xs ++ ys) s = receive d ys { t with returns := s.returns ++ feedResults rs } := by
  have ht : t.cfg.dialect = d := by rw [h.frame.cfg, hd]
  simp [receive, hd, ht, feedAll_append, h.feedAll]

/-- Settles O21: the first byte of a frame is already refused. -/
theorem feedRefusals : Obligations.FeedRefusals := by
  intro s b body n a q payload
  refine ⟨fun hd hm => ?mode, fun hd => ?checksummed, fun hd => ?simple⟩
  case mode =>
    constructor
    · simp [exec, execFeedS, hd, feedSimple, hm]
    · simp [exec, execSFrame, receive, feedAll, hd, feed_simple hd, feedSimple, hm]
  case checksummed =>
    exact ⟨by simp [exec, execFeedS, hd], receive_otherDialect (by simp [hd]) _⟩
  case simple =>
    exact ⟨by simp [exec, execFeedC, hd], receive_otherDialect (by simp [hd]) _⟩

end Sys2Proof.Runs
end

section
/-! Whole frames (30_encoding.md R72, R75): the run over the bytes of a frame, as an equation for each
stretch of it, in either dialect. -/

namespace Sys2Proof.Frames

open Sys2Proof Sys2Proof.Machine Sys2Proof.Safety Sys2Proof.SimpleDecoder Sys2Proof.Words Sys2Proof.Rows
  Sys2Proof.Runs

/-- A run without a result: every byte gives None. -/
def Quiet (bs : List Byte) (s t : State) : Prop := Feeds bs s (List.replicate bs.length none) t

theorem Quiet.nil (s : State) : Quiet [] s s := Feeds.nil s

theorem Quiet.cons {b : Byte} {bs : List Byte} {s t u : State} (hx : feed b s = .ok (t, none))
    (h : Quiet bs t u) : Quiet (b :: bs) s u := Feeds.cons (x := (t, none)) hx h

theorem Quiet.append {xs ys : List Byte} {s t u : State} (h : Quiet xs s t) (h' : Quiet ys t u) :
    Quiet (xs ++ ys) s u := by
  have := Feeds.append h h'
  rwa [← List.replicate_add, ← List.length_append] at this

/-- A quiet run and one more byte: None for every byte but the last. -/
theorem Quiet.last {bs : List Byte} {b : Byte} {s t u : State} {r : Option FrameResult}
    (h : Quiet bs s t) (hx : feed b t = .ok (u, r)) :
    Feeds (bs ++ [b]) s (List.replicate bs.length none ++ [r]) u :=
  Feeds.append h (Feeds.single (x := (u, r)) hx)

/-! ## In front of a START -/

/-- Every byte is discarded, in either dialect (40_decoder_simple.md R101, 41_decoder_checksummed.md
R121). -/
theorem feed_discard {b : Byte} {s : State} (hm : s.mode = .seekingStart) (hb : b ≠ START) :
    feed b s = .ok (s, none) := by
  cases hd : s.cfg.dialect with
  | simple => rw [feed_simple hd, feedSimple_discard hm hb]; rfl
  | checksummed => rw [feed_checksummed hd, feedChecked_discard hm hb]; rfl

theorem quiet_discard {bs : List Byte} {s : State} (hm : s.mode = .seekingStart)
    (hb : ∀ b ∈ bs, b ≠ START) : Quiet bs s s := by
  induction bs with
  | nil => exact .nil s
  | cons b bs ih =>
    rw [List.forall_mem_cons] at hb
    exact .cons (feed_discard hm hb.1) (ih hb.2)

/-! ## Simple frames -/

/-- Inside a frame the bytes of the body are stored (40_decoder_simple.md R104). -/
theorem quiet_append_simple {body : List Byte} {s : State} (hd : s.cfg.dialect = .simple)
    (hm : s.mode = .accumulating) (hb : ∀ b ∈ body, b ≠ END)
    (hl : s.buffer.length + body.length ≤ s.cfg.maxFrameLen) :
    Quiet body s { s with buffer := s.buffer ++ body } := by
  induction body generalizing s with
  | nil => rw [List.append_nil]; exact .nil s
  | cons b body ih =>
    rw [List.forall_mem_cons] at hb
    rw [List.length_cons] at hl
    have hx : feed b s = .ok (s.memAppend b, none) := by
      rw [feed_simple hd, feedSimple_append hm hb.1 ((full_eq_false_iff s).mpr (by omega))]; rfl
    have hrest := ih (s := s.memAppend b) hd hm hb.2 (by simp; omega)
    rw [memAppend_buffer, List.append_assoc] at hrest
    exact .cons hx hrest

/-- START and a body within the bound. -/
theorem quiet_open_simple {body : List Byte} {s : State} (hd : s.cfg.dialect = .simple)
    (hm : s.mode = .seekingStart) (hb : ∀ b ∈ body, b ≠ END) (hl : body.length ≤ s.cfg.maxFrameLen) :
    Quiet ([START] ++ body) s { s with mode := .accumulating, buffer := body } := by
  have hx : feed START s = .ok (simpleStart s) := by rw [feed_simple hd, feedSimple_start hm]
  exact .cons hx
    (quiet_append_simple (s := (s.setMode .accumulating).memClear) hd rfl hb (by simpa using hl))

/-- START, a body within the bound and END (40_decoder_simple.md R108). -/
theorem feeds_frame_simple {body : List Byte} {s : State} (hd : s.cfg.dialect = .simple)
    (hm : s.mode = .seekingStart) (hb : ∀ b ∈ body, b ≠ END) (hl : body.length ≤ s.cfg.maxFrameLen) :
    Feeds ([START] ++ body ++ [END]) s
      (List.replicate (body.length + 1) none ++ [some (classify body)]) { s with buffer := [] } := by
  have hx : feed END { s with mode := .accumulating, buffer := body } =
      .ok ({ s with buffer := [] }, some (classify body)) := by
    rw [feed_simple (by exact hd), feedSimple_end rfl, hm]; rfl
  exact (quiet_open_simple hd hm hb hl).last hx

/-- START and a body that is one byte too long: nothing of it is surfaced (40_decoder_simple.md R105). -/
theorem feeds_overflow_simple {body : List Byte} {b : Byte} {s : State}
    (hd : s.cfg.dialect = .simple) (hm : s.mode = .seekingStart) (hb : ∀ x ∈ body ++ [b], x ≠ END)
    (hl : body.length = s.cfg.maxFrameLen) :
    Feeds ([START] ++ body ++ [b]) s
      (List.replicate (s.cfg.maxFrameLen + 1) none ++ [some .frameTooLong]) { s with buffer := [] } := by
  rw [List.forall_mem_append, List.forall_mem_singleton] at hb
  have hx : feed b { s with mode := .accumulating, buffer := body } =
      .ok ({ s with buffer := [] }, some .frameTooLong) := by
    rw [feed_simple (by exact hd), feedSimple_overflow rfl hb.2 (by simp [State.full, hl]), hm]; rfl
  rw [← hl]
  exact (quiet_open_simple hd hm hb.1 hl.le).last hx

theorem classify_unknown {body : List Byte} (h : isUnknown body = true) :
    classify body = .unknown body := by
  cases body with
  | nil => rfl
  | cons b bs =>
    rw [isUnknown_cons, Option.isNone_iff_eq_none] at h
    simp [classify, h]

/-- Settles O23: START, the body and END in a row. -/
theorem simpleFrameIsDecodedExactly : Obligations.SimpleFrameIsDecodedExactly := by
  intro s body hd hm
  refine ⟨?total, fun hs hb hl => ?exact, classify_selector, fun h => classify_unknown h⟩
  case total =>
    obtain ⟨rs, t, ht⟩ := feeds_total (fun _ => hm) ([START] ++ body ++ [END])
    exact ⟨_, receive_of_feeds hd ht⟩
  case exact => exact receive_of_feeds hd (feeds_frame_simple hd hs hb hl)

/-- The frame of a body that exceeds the bound: what fits, the byte that does not, and the rest. -/
theorem overlong_split {body : List Byte} {n : Nat} (h : n < body.length) :
    [START] ++ body ++ [END] =
      [START] ++ body.take n ++ [body[n]] ++ (body.drop (n + 1) ++ [END]) := by
  have hbody : body = body.take n ++ ([body[n]] ++ body.drop (n + 1)) := by
    rw [List.singleton_append, List.getElem_cons_drop, List.take_append_drop]
  conv_lhs => rw [hbody]
  simp only [List.append_assoc]

/-- Settles O24: the byte that does not fit ends the frame, and the rest is received from SeekingStart. -/
theorem overlongSimpleFrameSurfacesNothing : Obligations.OverlongSimpleFrameSurfacesNothing := by
  intro s body k hd hm hb hl
  have hlt : s.cfg.maxFrameLen < body.length := by omega
  have hbound : ∀ x ∈ body.take s.cfg.maxFrameLen ++ [body[s.cfg.maxFrameLen]], x ≠ END := by
    rw [List.take_append_getElem hlt]
    exact fun x hx => hb x (List.mem_of_mem_take hx)
  have hover := feeds_overflow_simple hd hm hbound (by simp; omega)
  have hrest : exec (.sframe body) s = receive .simple (body.drop (s.cfg.maxFrameLen + 1) ++ [END])
      { s with
        buffer := []
        returns := s.returns ++ lastOnly (s.cfg.maxFrameLen + 1) (some .frameTooLong) } := by
    rw [exec, execSFrame, overlong_split hlt]
    exact receive_append hd hover _
  refine ⟨_, _, rfl, rfl, hrest, fun hstart => ?_⟩
  refine hrest.trans ((receive_of_feeds (by exact hd) (quiet_discard (by exact hm) ?_)).trans ?_)
  · rw [List.forall_mem_append, List.forall_mem_singleton]
    exact ⟨hstart, by decide⟩
  · rw [List.length_append, List.length_drop, hl, List.length_singleton, Nat.add_sub_cancel_left]

/-! ## Checksummed frames -/

theorem xorAll_cons (b : Byte) (bs : List Byte) : xorAll (b :: bs) = b ^^^ xorAll bs := by
  induction bs using List.reverseRecOn with
  | nil => simp [xorAll]
  | append_singleton bs x ih => rw [← List.cons_append, xorAll_append, ih, xorAll_append, BitVec.xor_assoc]

theorem xorAll_append_list (xs ys : List Byte) : xorAll (xs ++ ys) = xorAll xs ^^^ xorAll ys := by
  induction xs with
  | nil => simp [xorAll]
  | cons x xs ih => rw [List.cons_append, xorAll_cons, ih, xorAll_cons, BitVec.xor_assoc]

theorem xor_end_of_body (body : List Byte) : START ^^^ xorAll body ^^^ END = 0x01 ^^^ xorAll body := by
  rw [show (0x01 : Byte) = START ^^^ END from rfl]
  ac_rfl

/-- The checksum of START, a body and END (30_encoding.md R77). -/
theorem xorAll_frame (body : List Byte) : xorAll ([START] ++ body ++ [END]) = 0x01 ^^^ xorAll body := by
  rw [← xor_end_of_body, xorAll_append, xorAll_append_list]
  rfl

theorem encodeFrame_eq_body (a q : Byte) (payload : List Byte) : encodeFrame a q payload =
    [START] ++ (a :: q :: payload) ++ [END] ++ [0x01 ^^^ xorAll (a :: q :: payload)] := by
  rw [← xorAll_frame]; rfl

theorem xorAll_fields (a q : Byte) (payload : List Byte) :
    0x01 ^^^ xorAll (a :: q :: payload) = 0x01 ^^^ a ^^^ q ^^^ xorAll payload := by
  rw [xorAll_cons, xorAll_cons]
  ac_rfl

/-- Inside a frame the bytes of the body are stored and folded (41_decoder_checksummed.md R123). -/
theorem quiet_append_checked {body : List Byte} {s : State} (hd : s.cfg.dialect = .checksummed)
    (hm : s.mode = .accumulating) (hb : ∀ b ∈ body, b ≠ END)
    (hl : s.buffer.length + body.length ≤ s.cfg.maxFrameLen) :
    Quiet body s { s with buffer := s.buffer ++ body, cks := s.cks ^^^ xorAll body } := by
  induction body generalizing s with
  | nil =>
    rw [List.append_nil, show xorAll [] = 0#8 from rfl, BitVec.xor_zero]
    exact .nil s
  | cons b body ih =>
    rw [List.forall_mem_cons] at hb
    rw [List.length_cons] at hl
    have hx : feed b s = .ok ((s.memAppend b).setCks (s.cks ^^^ b), none) := by
      rw [feed_checksummed hd, feedChecked_append hm hb.1 ((full_eq_false_iff s).mpr (by omega))]; rfl
    have hrest := ih (s := (s.memAppend b).setCks (s.cks ^^^ b)) hd hm hb.2 (by simp; omega)
    rw [setCks_buffer, setCks_cks, memAppend_buffer, List.append_assoc, BitVec.xor_assoc,
      ← xorAll_cons] at hrest
    exact .cons hx hrest

/-- START, a body within the bound and END: the checksum byte is awaited (R122 to R124). -/
theorem quiet_body_checked {body : List Byte} {s : State} (hd : s.cfg.dialect = .checksummed)
    (hm : s.mode = .seekingStart) (hb : ∀ b ∈ body, b ≠ END) (hl : body.length ≤ s.cfg.maxFrameLen) :
    Quiet ([START] ++ body ++ [END]) s
      { s with mode := .seekingChecksum, buffer := body, cks := 0x01 ^^^ xorAll body } := by
  have hstart : feed START s = .ok (checkedStart s) := by rw [feed_checksummed hd, feedChecked_start hm]
  have hbody : Quiet body (checkedStart s).1
      { s with mode := .accumulating, buffer := body, cks := START ^^^ xorAll body } :=
    quiet_append_checked (s := (checkedStart s).1) hd rfl hb (by simpa [checkedStart] using hl)
  have hend : feed END { s with mode := .accumulating, buffer := body, cks := START ^^^ xorAll body } =
      .ok ({ s with mode := .seekingChecksum, buffer := body, cks := 0x01 ^^^ xorAll body }, none) := by
    rw [feed_checksummed (by exact hd), feedChecked_end rfl, ← xor_end_of_body]; rfl
  exact .cons hstart (hbody.append (.cons hend (.nil _)))

/-- Settles O39: the running checksum keeps the difference of the two bytes. -/
theorem corruptedByteIsDetected : Obligations.CorruptedByteIsDetected := by
  intro s front back good bad hd hm hne hb hbad hl
  have hb' : ∀ b ∈ front ++ [bad] ++ back, b ≠ END := by
    simp only [List.forall_mem_append, List.forall_mem_singleton] at hb ⊢
    exact ⟨⟨hb.1.1, hbad⟩, hb.2⟩
  have hcks : 0x01 ^^^ xorAll (front ++ [good] ++ back) ≠ 0x01 ^^^ xorAll (front ++ [bad] ++ back) := by
    simpa [xorAll_append_list, xorAll_cons, BitVec.xor_left_inj, BitVec.xor_right_inj] using hne
  have hx : feed (0x01 ^^^ xorAll (front ++ [good] ++ back))
      { s with
        mode := .seekingChecksum
        buffer := front ++ [bad] ++ back
        cks := 0x01 ^^^ xorAll (front ++ [bad] ++ back) } =
      .ok ({ s with buffer := [], cks := 0x01 ^^^ xorAll (front ++ [bad] ++ back) },
        some .checksumError) := by
    rw [feed_checksummed (by exact hd), feedChecked_mismatch rfl hcks, hm]; rfl
  have hrun := (quiet_body_checked hd hm hb' (by simp; omega)).last hx
  have hlen : ([START] ++ (front ++ [bad] ++ back) ++ [END]).length = front.length + back.length + 3 := by
    simp; omega
  rw [hlen] at hrun
  have hbytes : [0x02] ++ front ++ [bad] ++ back ++ [0x03] =
      [START] ++ (front ++ [bad] ++ back) ++ [END] := by simp [START, END]
  rw [hbytes]
  exact receive_of_feeds hd hrun

/-- What the last byte of a whole valid frame gives (41_decoder_checksummed.md R128, R129). -/
def frameResult (fr : Frame) (s : State) : Option FrameResult :=
  if duplicate fr.sequence s.lastSequence then none else some (.frame fr)

/-- The state after it. -/
def afterFrame (fr : Frame) (s : State) : State :=
  { s with
    buffer := []
    cks := 0x01 ^^^ fr.address ^^^ fr.sequence ^^^ xorAll fr.payload
    lastSequence := if duplicate fr.sequence s.lastSequence then s.lastSequence else some fr.sequence
    relay := if duplicate fr.sequence s.lastSequence then s.relay else some fr }

/-- A frame with its own checksum, behind any number of SYNC bytes. -/
theorem feeds_frame_checked {s : State} {a q : Byte} {payload : List Byte} (n : Nat)
    (hd : s.cfg.dialect = .checksummed) (hm : s.mode = .seekingStart)
    (hb : ∀ b ∈ a :: q :: payload, b ≠ END) (hl : 2 + payload.length ≤ s.cfg.maxFrameLen) :
    Feeds (List.replicate n SYNC ++ encodeFrame a q payload) s
      (List.replicate (n + 4 + payload.length) none ++ [frameResult ⟨a, q, payload⟩ s])
      (afterFrame ⟨a, q, payload⟩ s) := by
  have hsync : Quiet (List.replicate n SYNC) s s :=
    quiet_discard hm fun b h => by rw [List.eq_of_mem_replicate h]; decide
  have hbody := quiet_body_checked hd hm hb (by rw [List.length_cons, List.length_cons]; omega)
  have hx : feed (0x01 ^^^ xorAll (a :: q :: payload))
      { s with
        mode := .seekingChecksum
        buffer := a :: q :: payload
        cks := 0x01 ^^^ xorAll (a :: q :: payload) } =
      .ok (afterFrame ⟨a, q, payload⟩ s, frameResult ⟨a, q, payload⟩ s) := by
    refine (feed_match (inChecksummed_iff.mpr ⟨by exact hd, rfl⟩) rfl).trans ?_
    rw [judgeFrame_cons rfl, xorAll_fields]
    cases hdup : duplicate q s.lastSequence <;>
      simp only [frameResult, afterFrame, hdup, hm] <;> rfl
  have hrun := (hsync.append hbody).last hx
  have hlen : (List.replicate n SYNC ++ ([START] ++ (a :: q :: payload) ++ [END])).length =
      n + 4 + payload.length := by simp; omega
  rw [hlen, List.append_assoc, ← encodeFrame_eq_body] at hrun
  exact hrun

/-- Settles O37: SYNC bytes, START, the three fields, END and the checksum in a row. -/
theorem encodedFrameRoundTrip : Obligations.EncodedFrameRoundTrip := by
  intro s n a q payload hd
  refine ⟨?total, fun hm hb hl => receive_of_feeds hd (feeds_frame_checked n hd hm hb hl)⟩
  case total =>
    obtain ⟨rs, t, ht⟩ := feeds_total (hasMode_of_checksummed hd)
      (List.replicate n SYNC ++ encodeFrame a q payload)
    exact ⟨_, receive_of_feeds hd ht⟩

/-- What was accepted last is a duplicate exactly when its repeat flag is set (90_conflicts.md C3). -/
theorem duplicate_self (q : Byte) : duplicate q (some q) = q.getLsbD 3 := by
  simp [duplicate, repeatFlag]

theorem repeatFlag_of_duplicate {q : Byte} {last : Option Byte} (h : duplicate q last = true) :
    q.getLsbD 3 = true := by
  cases last with
  | none => cases h
  | some l =>
    rw [duplicate, Bool.and_eq_true] at h
    exact h.1

/-- A frame just received is a duplicate exactly when its repeat flag is set. -/
theorem duplicate_afterFrame (fr : Frame) (s : State) :
    duplicate fr.sequence (afterFrame fr s).lastSequence = fr.sequence.getLsbD 3 := by
  rw [afterFrame]
  dsimp only
  split
  · rename_i h; rw [h, repeatFlag_of_duplicate h]
  · exact duplicate_self _

/-- Settles O38: the round trip twice, the second time with the frame itself as the last one. -/
theorem frameAcceptedFirstTimeIsThenSuppressed : Obligations.FrameAcceptedFirstTimeIsThenSuppressed := by
  intro s a q payload hd hm hb hl
  have first := receive_of_feeds hd (feeds_frame_checked 0 hd hm hb hl)
  have again : ∀ t : State, t.cfg = s.cfg → t.mode = s.mode →
      exec (.cframe 0 a q payload) t = .next { afterFrame ⟨a, q, payload⟩ t with
        returns := t.returns ++ feedResults
          (List.replicate (0 + 4 + payload.length) none ++ [frameResult ⟨a, q, payload⟩ t]) } :=
    fun t hc hmt => receive_of_feeds (hc ▸ hd)
      (feeds_frame_checked 0 (hc ▸ hd) (hmt.trans hm) hb (hc ▸ hl))
  refine ⟨_, _, first, again _ rfl rfl, ?_⟩
  have hdup := duplicate_afterFrame ⟨a, q, payload⟩ s
  simp only [frameResult, lastOnly, Nat.zero_add]
  rw [hdup]

end Sys2Proof.Frames
end

section
/-! Single rows of both decoders (40_decoder_simple.md section 3, 41_decoder_checksummed.md sections 3, 4
and 6), each as an equation. -/

namespace Sys2Proof.SingleRows

open Sys2Proof Sys2Proof.Machine Sys2Proof.Safety Sys2Proof.SimpleDecoder Sys2Proof.ChecksummedDecoder
  Sys2Proof.Words Sys2Proof.Rows Sys2Proof.Frames

theorem full_of_length_eq {s : State} (h : s.buffer.length = s.cfg.maxFrameLen) : s.full = true := by
  simp [State.full, h]

/-! ## The simple decoder -/

theorem exec_feedSOverflow {b : Byte} {s : State} (hd : s.cfg.dialect = .simple)
    (hm : s.mode = .accumulating) (hb : b ≠ END) (hf : s.full = true) :
    exec (.feedSOverflow b) s = .next (s.ready.logReturn (.feed (some .frameTooLong))) :=
  whenRow_selected (simpleOverflow s) (by simp [inSimple_eq_true hd hm, hb, hf])

/-- The bytes that are no command (40_decoder_simple.md R107). -/
theorem isUnknown_iff {bytes : List Byte} : isUnknown bytes = true ↔
    ∀ b rest, bytes = b :: rest → b ≠ 0x46 ∧ b ≠ 0x50 ∧ b ≠ 0x51 := by
  cases bytes with
  | nil => simp [isUnknown]
  | cons b rest =>
    rw [isUnknown_cons, Option.isNone_iff_eq_none, Option.eq_none_iff_forall_ne_some]
    constructor
    · rintro h _ _ ⟨⟩
      exact ⟨fun e => h .f (selectorOf_eq_some_iff.mpr e), fun e => h .p (selectorOf_eq_some_iff.mpr e),
        fun e => h .q (selectorOf_eq_some_iff.mpr e)⟩
    · intro h sel hs
      obtain ⟨hf, hp, hq⟩ := h b rest rfl
      rw [selectorOf_eq_some_iff] at hs
      cases sel
      · exact hf hs
      · exact hp hs
      · exact hq hs

/-- Settles O17: what is no command is unknown as a whole. -/
theorem simpleEndYieldsUnknown : Obligations.SimpleEndYieldsUnknown := by
  intro s hd hm hbuf
  rw [exec_feedSEnd hd hm, classify_unknown (isUnknown_iff.mpr hbuf)]
  rfl

/-- Settles O19. -/
theorem simpleOverflowRaises : Obligations.SimpleOverflowRaises :=
  fun _ _ hd hm hb hl => exec_feedSOverflow hd hm hb (full_of_length_eq hl)

/-! ## The checksummed decoder inside a frame -/

theorem exec_feedCAppend {b : Byte} {s : State} (hd : s.cfg.dialect = .checksummed)
    (hm : s.mode = .accumulating) (hb : b ≠ END) (hf : s.full = false) :
    exec (.feedCAppend b) s = .next (((s.memAppend b).setCks (s.cks ^^^ b)).logReturn (.feed none)) :=
  whenRow_selected (checkedAppend b s) (by simp [inChecksummed_eq_true hd hm, hb, hf])

theorem exec_feedCOverflow {b : Byte} {s : State} (hd : s.cfg.dialect = .checksummed)
    (hm : s.mode = .accumulating) (hb : b ≠ END) (hf : s.full = true) :
    exec (.feedCOverflow b) s = .next (s.ready.logReturn (.feed (some .frameTooLong))) :=
  whenRow_selected (checkedOverflow s) (by simp [inChecksummed_eq_true hd hm, hb, hf])

/-- Settles O27: the one store of 20_memory.md R53, read back, with the checksum beside it. -/
theorem checkedAppendFoldsByte : Obligations.CheckedAppendFoldsByte := by
  intro s b hd hm hb hroom
  exact ⟨_, exec_feedCAppend hd hm hb ((full_eq_false_iff s).mpr hroom), rfl,
    memRead_memAppend_new s b, memRead_memAppend_old s b⟩

/-- Settles O29. -/
theorem checkedOverflowRaises : Obligations.CheckedOverflowRaises :=
  fun _ _ hd hm hb hl => exec_feedCOverflow hd hm hb (full_of_length_eq hl)

/-! ## The checksummed decoder on the checksum byte -/

/-- The byte that matches makes its row the judgement of the buffered frame. -/
theorem exec_checksum_row {c : Ctx} {i : Instr} {s : State} (he : encode c i = ⟨.rxByte, [s.cks]⟩)
    (hs : s.inChecksummed .seekingChecksum = true) (h : i.selected s.ctx = true) :
    exec i s = deliver (judgeFrame s) := by
  obtain ⟨x, hx, hexec⟩ := exec_byteRow_selected he h
  rw [feed_match hs rfl] at hx
  cases hx
  exact hexec

/-- A SEQBYTE row: the buffered frame must carry its sequence byte (log entry 12). -/
def seqRow (q : Byte) (judge : Frame → Fed) (s : State) : Host.Outcome State Fault Refusal :=
  match s.verifiedFrame with
  | none => .refused .rowNotSelected
  | some fr => whenRow (s.inChecksummed .seekingChecksum && fr.sequence == q) (judge fr)

theorem exec_seqRepeat_eq (upper : BitVec 4) (number : BitVec 3) (s : State) :
    exec (.seqRepeat upper number) s = seqRow (seqByte upper true number)
      (fun fr => if duplicate fr.sequence s.lastSequence then checkedDuplicate s else checkedAccept fr s)
      s := rfl

theorem exec_seqNew_eq (upper : BitVec 4) (number : BitVec 3) (s : State) :
    exec (.seqNew upper number) s =
      seqRow (seqByte upper false number) (fun fr => checkedAccept fr s) s := rfl

theorem seqRow_carried {s : State} {a q : Byte} {p : List Byte} (judge : Frame → Fed)
    (hs : s.inChecksummed .seekingChecksum = true) (hbuf : s.buffer = a :: q :: p) :
    seqRow q judge s = deliver (judge ⟨a, q, p⟩) := by
  simp [seqRow, verifiedFrame_cons hbuf, hs, whenRow]

theorem buffer_second_iff {s : State} {q : Byte} :
    s.buffer[1]? = some q ↔ ∃ a p, s.buffer = a :: q :: p := by
  match s.buffer with
  | [] => simp
  | [a] => simp
  | a :: q' :: p => simp

theorem seqRow_refused {s : State} {q : Byte} (judge : Frame → Fed)
    (h : ¬ (s.inChecksummed .seekingChecksum = true ∧ s.buffer[1]? = some q)) :
    seqRow q judge s = .refused .rowNotSelected := by
  by_cases hl : s.buffer.length < 2
  · simp [seqRow, verifiedFrame_eq_none hl]
  · obtain ⟨a, q', p, hbuf⟩ := buffer_of_two_le (Nat.not_lt.mp hl)
    have hsel : (s.inChecksummed .seekingChecksum && q' == q) = false := by simpa [hbuf] using h
    simp [seqRow, verifiedFrame_cons hbuf, hsel, whenRow]

/-- SEQ.REPEAT judges the buffered frame that carries its sequence byte. -/
theorem exec_seqRepeat {s : State} {a : Byte} {p : List Byte} {upper : BitVec 4} {number : BitVec 3}
    (hs : s.inChecksummed .seekingChecksum = true)
    (hbuf : s.buffer = a :: seqByte upper true number :: p) :
    exec (.seqRepeat upper number) s = deliver (judgeFrame s) := by
  rw [exec_seqRepeat_eq, seqRow_carried _ hs hbuf, judgeFrame_cons hbuf]

/-- SEQ.NEW does so too: a frame whose repeat flag is clear is no duplicate. -/
theorem exec_seqNew {s : State} {a : Byte} {p : List Byte} {upper : BitVec 4} {number : BitVec 3}
    (hs : s.inChecksummed .seekingChecksum = true)
    (hbuf : s.buffer = a :: seqByte upper false number :: p) :
    exec (.seqNew upper number) s = deliver (judgeFrame s) := by
  have hdup : duplicate (seqByte upper false number) s.lastSequence = false := by
    cases s.lastSequence with
    | none => rfl
    | some l => simp [duplicate, (seqByte_fields upper false number).2.1]
  rw [exec_seqNew_eq, seqRow_carried _ hs hbuf, judgeFrame_cons hbuf, hdup]
  rfl

/-- Settles O34: each of the named states breaks the test of both rows. -/
theorem sequenceRowsNeedVerifiedFrame : Obligations.SequenceRowsNeedVerifiedFrame := by
  intro s upper number
  refine ⟨fun h => ?_, fun h => seqRow_refused _ (fun hs => h hs.2),
    fun h => seqRow_refused _ (fun hs => h hs.2)⟩
  have hno : ∀ q, ¬ (s.inChecksummed .seekingChecksum = true ∧ s.buffer[1]? = some q) := by
    rintro q ⟨hs, hq⟩
    obtain ⟨hd, hm⟩ := inChecksummed_iff.mp hs
    rcases h with hsimple | hmode | hlen
    · rw [hsimple] at hd; cases hd
    · exact hmode hm
    · obtain ⟨a, p, hbuf⟩ := buffer_second_iff.mp hq
      simp [hbuf] at hlen
  exact ⟨seqRow_refused _ (hno _), seqRow_refused _ (hno _)⟩

/-- Settles O31. -/
theorem shortFrameIsUnknown : Obligations.ShortFrameIsUnknown := by
  intro s hd hm hl
  have hs := inChecksummed_eq_true hd hm
  have hsel : (Instr.feedCCksShort s.cks).selected s.ctx = true := by
    simp only [Instr.selected, ctx_inChecksummed, hs]
    simp [State.ctx, hl]
  rw [exec_checksum_row (c := s.ctx) rfl hs hsel, judgeFrame_short hl]
  rfl

/-- Settles O32: flag set and the same number, whatever the other bits. -/
theorem duplicateIsSilentlyDiscarded : Obligations.DuplicateIsSilentlyDiscarded := by
  intro s address upper last flag number payload hd hm hbuf hlast
  have hs := inChecksummed_eq_true hd hm
  have hdup : duplicate (seqByte upper true number) s.lastSequence = true := by
    simp [hlast, duplicate, (seqByte_fields upper true number).2.1,
      (seqByte_fields upper true number).2.2, (seqByte_fields last flag number).2.2]
  have hsel : (Instr.feedCCksDuplicate s.cks).selected s.ctx = true := by
    simp only [Instr.selected, ctx_inChecksummed, hs, ctx_isDuplicate hbuf, hdup]
    simp [State.ctx, hbuf]
  have hjudge : judgeFrame s = checkedDuplicate s := by rw [judgeFrame_cons hbuf, if_pos hdup]
  rw [exec_checksum_row (c := s.ctx) rfl hs hsel, exec_seqRepeat hs hbuf, hjudge]
  exact ⟨rfl, rfl⟩

theorem seqNumber_toNat (q : Byte) : (seqNumber q).toNat = q.toNat % 8 := by
  simp [seqNumber]

/-- The three ways not to be a duplicate (41_decoder_checksummed.md R120). -/
theorem duplicate_eq_false {q : Byte} {last : Option Byte} (h : q.getLsbD 3 = false ∨ last = none ∨
    ∃ l, last = some l ∧ l.toNat % 8 ≠ q.toNat % 8) : duplicate q last = false := by
  cases last with
  | none => rfl
  | some l =>
    rcases h with hf | hn | ⟨l', hl, hne⟩
    · simp only [duplicate, repeatFlag, hf, Bool.false_and]
    · cases hn
    · cases hl
      have : seqNumber l ≠ seqNumber q := fun e => hne (by rw [← seqNumber_toNat, e, seqNumber_toNat])
      simp [duplicate, this]

/-- Settles O33: the three rows all judge the buffered frame, which is no duplicate. -/
theorem newFrameIsAccepted : Obligations.NewFrameIsAccepted := by
  intro s address q payload hd hm hbuf hnew
  have hs := inChecksummed_eq_true hd hm
  have hdup := duplicate_eq_false hnew
  have hsel : (Instr.feedCCksAccept s.cks).selected s.ctx = true := by
    simp only [Instr.selected, ctx_inChecksummed, hs, ctx_isDuplicate hbuf, hdup]
    simp [State.ctx, hbuf]
  have hjudge : deliver (judgeFrame s) = deliver (checkedAccept ⟨address, q, payload⟩ s) := by
    rw [judgeFrame_cons hbuf, hdup]; rfl
  exact ⟨_, rfl, (exec_checksum_row (c := s.ctx) rfl hs hsel).trans hjudge,
    fun _ _ hq => (exec_seqRepeat hs (hq ▸ hbuf)).trans hjudge,
    fun _ _ hq => (exec_seqNew hs (hq ▸ hbuf)).trans hjudge⟩

/-! ## ENCODE_C -/

/-- Settles O36: the checksum byte is that of START, the three fields and END. -/
theorem encodeReturnsFrameBytes : Obligations.EncodeReturnsFrameBytes := by
  intro s a q payload
  have hbytes : encodeFrame a q payload =
      [0x02, a, q] ++ payload ++ [0x03, 0x01 ^^^ a ^^^ q ^^^ xorAll payload] := by
    rw [encodeFrame_eq_body, xorAll_fields]
    simp [START, END]
  rw [← hbytes]
  rfl

end Sys2Proof.SingleRows
end

section
/-! DISPATCH and the replies (42_dispatcher.md; 30_encoding.md section 5): its cases as equations, and which
instructions are one. -/

namespace Sys2Proof.Dispatching

open Sys2Proof Sys2Proof.Machine Sys2Proof.Safety Sys2Proof.SimpleDecoder Sys2Proof.Words
  Sys2Proof.SingleRows

/-! ## The cases of F and P, by the arguments -/

theorem dispatchSet_of_le {args : List Byte} {v : Nat} (hp : parseDec args = some v) (hv : v ≤ 255)
    (a : Actuator) (s : State) : dispatchSet a args s = acceptSet a (BitVec.ofNat 8 v) s := by
  simp [dispatchSet, hp, Nat.not_lt.mpr hv]

/-- The arguments that a status rejects (42_dispatcher.md R154, R155). -/
def RejectedWith (args : List Byte) (st : DispatchStatus) : Prop :=
  parseDec args = none ∧ st = .argumentUnparseable ∨
    ∃ v, parseDec args = some v ∧ 255 < v ∧ st = .argumentOutOfRange

theorem dispatchSet_of_rejected {args : List Byte} {st : DispatchStatus} (h : RejectedWith args st)
    (a : Actuator) (s : State) : dispatchSet a args s = rejectSet a args st s := by
  rcases h with ⟨hp, rfl⟩ | ⟨v, hp, hv, rfl⟩
  · simp [dispatchSet, hp]
  · simp [dispatchSet, hp, hv]

theorem rejectable_of_rejected {args : List Byte} {st : DispatchStatus} (h : RejectedWith args st) :
    rejectable args = true := by
  rcases h with ⟨hp, -⟩ | ⟨v, hp, hv, -⟩
  · simp [rejectable, hp]
  · simp [rejectable, hp, hv]

theorem rejectable_of_le {args : List Byte} {v : Nat} (hp : parseDec args = some v) (hv : v ≤ 255) :
    rejectable args = false := by
  simp [rejectable, hp, hv]

theorem dispatch_selector (a : Actuator) (args : List Byte) (s : State) :
    dispatch a.selector args s = dispatchSet a args s := by cases a <;> rfl

/-! ## The next states, with the replies written out -/

theorem answered_acceptSet (a : Actuator) (v : Level) (s : State) : answered (acceptSet a v s) =
    .next { s.setTarget a v with
      tx := s.tx ++ [0x02, a.selector.byte] ++ dec v ++ [s.cfg.replyTerm.byte]
      returns := s.returns ++ [.dispatch .ok] } := by
  cases a <;> simp [answered, acceptSet, acceptedReply, State.txWrite, State.logReturn, START]

theorem answered_rejectSet (a : Actuator) (args : List Byte) (st : DispatchStatus) (s : State) :
    answered (rejectSet a args st s) = .next { s with
      tx := s.tx ++ [0x02, a.selector.byte, 0x45] ++ args ++ [s.cfg.replyTerm.byte]
      returns := s.returns ++ [.dispatch st] } := by
  simp [answered, rejectSet, rejectedReply, State.txWrite, State.logReturn, START, ERRMARK]

theorem answered_dispatchQuery (s : State) : answered (dispatchQuery s) = .next { s with
    tx := s.tx ++ [0x02, 0x51] ++ dec s.currentFan ++ [0x2C] ++ dec s.currentPump ++ [0x2C] ++
      s.cfg.tempSentinel ++ [s.cfg.replyTerm.byte]
    returns := s.returns ++ [.dispatch .queryAnswered] } := by
  simp [answered, dispatchQuery, queryReply, queryData, State.txWrite, State.logReturn, START, DELIM,
    Selector.byte, State.current]

/-- Settles O40: F, P and DISPATCH of them are the case accepted. -/
theorem validSetCommandWritesTarget : Obligations.ValidSetCommandWritesTarget := by
  intro s args v hp hv
  have hlevel : (BitVec.ofNat 8 v).toNat = v := by rw [BitVec.toNat_ofNat]; omega
  have hrun : ∀ a, answered (dispatchSet a args s) = _ := fun a =>
    (congrArg answered (dispatchSet_of_le hp hv a s)).trans (answered_acceptSet a _ s)
  exact ⟨⟨_, rfl, hlevel, hrun .fan, hrun .fan⟩, ⟨_, rfl, hlevel, hrun .pump, hrun .pump⟩⟩

/-- Settles O41: they are the case rejected. -/
theorem invalidSetCommandIsRejected : Obligations.InvalidSetCommandIsRejected := by
  intro s args st h
  have hrun : ∀ a, answered (dispatchSet a args s) = _ := fun a =>
    (congrArg answered (dispatchSet_of_rejected h a s)).trans (answered_rejectSet a args st s)
  exact ⟨⟨_, rfl, hrun .fan, hrun .fan⟩, ⟨_, rfl, hrun .pump, hrun .pump⟩⟩

/-- Settles O42. -/
theorem queryReportsCurrentLevels : Obligations.QueryReportsCurrentLevels :=
  fun s _ => ⟨_, rfl, answered_dispatchQuery s, answered_dispatchQuery s⟩

theorem exec_replyRejected {args : List Byte} {st : DispatchStatus} (h : RejectedWith args st)
    (a : Actuator) (s : State) : exec (.replyRejected a args) s = answered (rejectSet a args st s) := by
  rw [exec, execReplyRejected, if_pos (rejectable_of_rejected h), dispatchSet_of_rejected h]

/-- Settles O46: each REPLY row is its case of a direct DISPATCH. -/
theorem replyFormsAreWritten : Obligations.ReplyFormsAreWritten := by
  intro s v args st
  refine ⟨answered_acceptSet .fan v s, answered_acceptSet .pump v s, fun h => ⟨?fan, ?pump⟩, ?refused,
    answered_dispatchQuery s⟩
  case fan => exact (exec_replyRejected h .fan s).trans (answered_rejectSet .fan args st s)
  case pump => exact (exec_replyRejected h .pump s).trans (answered_rejectSet .pump args st s)
  case refused =>
    rintro ⟨n, hp, hn⟩ a
    rw [exec, execReplyRejected, rejectable_of_le hp hn]
    rfl

/-! ## What is not a command, and the terminator -/

/-- Settles O44: the whitelist test, in both directions. -/
theorem unknownIsReported : Obligations.UnknownIsReported := by
  intro s bytes
  constructor
  · intro h
    rw [exec, execUnknown, if_pos (isUnknown_iff.mpr h)]
    rfl
  · rintro ⟨b, rest, rfl, hb⟩
    rw [exec, execUnknown, if_neg]
    intro hu
    obtain ⟨hf, hp, hq⟩ := isUnknown_iff.mp hu b rest rfl
    rcases hb with h | h | h
    · exact hf h
    · exact hp h
    · exact hq h

/-- Every reply ends in the byte that REPLY_TERM names (30_encoding.md R81). -/
theorem dispatch_tx_term (sel : Selector) (args : List Byte) (s : State) :
    ∃ front, (dispatch sel args s).1.tx = s.tx ++ front ++ [s.cfg.replyTerm.byte] := by
  obtain ⟨r, ht, ⟨a, v, rfl⟩ | ⟨a, -, rfl⟩ | rfl⟩ := dispatch_tx sel args s <;>
    exact ⟨_, ht.trans (List.append_assoc s.tx _ _).symm⟩

/-- Settles O45: one row per parameter value, and the last byte of the one reply. -/
theorem terminatorFollowsParameter : Obligations.TerminatorFollowsParameter := by
  intro s
  have hterm : ∀ sel args, ∃ t front, exec (.dispatch sel args) s = .next t ∧
      t.tx = s.tx ++ front ++ [s.cfg.replyTerm.byte] := fun sel args => by
    obtain ⟨front, h⟩ := dispatch_tx_term sel args s
    exact ⟨_, front, rfl, h⟩
  refine ⟨fun hr => ?fin, fun hr => ?ack⟩ <;> rw [hr] at hterm
  case fin => exact ⟨by rw [exec, execTermEnd, if_pos hr]; rfl, by simp [exec, execTermAck, hr], hterm⟩
  case ack => exact ⟨by rw [exec, execTermAck, if_pos hr]; rfl, by simp [exec, execTermEnd, hr], hterm⟩

end Sys2Proof.Dispatching
end

section
/-! What an instruction can do: one inversion lemma for exec (Sys2Proof.Machine.exec), and from it who writes
what (10_state.md R29, R35, R37) and which instructions write a reply (42_dispatcher.md R161). -/

namespace Sys2Proof.Effects

open Sys2Proof Sys2Proof.Machine Sys2Proof.Safety Sys2Proof.SimpleDecoder Sys2Proof.Words Sys2Proof.Rows
  Sys2Proof.Runs Sys2Proof.SingleRows Sys2Proof.Dispatching

/-! ## The frame of a tick -/

/-- Steps 2 and 3 write pending, the targets, the currents and the output ports (44_tick.md R194 to R197). -/
theorem dispatchStep_frame (s : State) : (dispatchStep s).1 =
    { s with
      pending := (dispatchStep s).1.pending
      targetFan := (dispatchStep s).1.targetFan
      targetPump := (dispatchStep s).1.targetPump
      tx := (dispatchStep s).1.tx } := by
  rcases dispatchStep_cases s with ⟨-, e⟩ | ⟨_, _, -, -, -, e⟩ | ⟨sel, args, -, -, e⟩ | ⟨_, -, -, e⟩ <;>
    rw [e]
  · rw [dispatch_frame]; rfl
  · rfl

theorem afterIngest_frame (s : State) : afterIngest s =
    { (dispatchStep s).1 with
      currentFan := (afterIngest s).currentFan
      currentPump := (afterIngest s).currentPump
      acts := (afterIngest s).acts
      results := s.results ++ [(dispatchStep s).2]
      ramps := s.ramps ++ [((advance .fan (dispatchStep s).1).2,
        (advance .pump (advance .fan (dispatchStep s).1).1).2)] } := by
  rw [afterIngest_eq, advance_frame .pump, advance_frame .fan, dispatchStep_frame]
  rfl

theorem exec_tick {s m : State} (h : ingest s.cfg.burstMax s = .ok m) :
    exec .tick s = .next (afterIngest m) := by
  simp [exec, execTick, h]

theorem exec_tick_next {s t : State} (h : exec .tick s = .next t) :
    ∃ m, ingest s.cfg.burstMax s = .ok m ∧ t = afterIngest m := by
  unfold exec execTick at h
  dsimp only at h
  split at h
  · cases h
  · cases h; exact ⟨_, ‹_›, rfl⟩

/-! ## What an instruction can do -/

/-- The command that a form of DISPATCH carries out (log entry 14); an accepted level is the one its shortest
spelling stands for. -/
def commandOf : Instr → Option (Selector × List Byte)
  | .f args => some (.f, args)
  | .p args => some (.p, args)
  | .q args => some (.q, args)
  | .replyAccepted a v => some (a.selector, dec v)
  | .replyRejected a args => if rejectable args then some (a.selector, args) else none
  | .replyQuery => some (.q, [])
  | .dispatch sel args => some (sel, args)
  | _ => none

/-- The effects of the instructions, by what they are made of. -/
inductive Effect : Instr → State → State → Prop
  | fed {i : Instr} {s u : State} {bs : List Byte} {rs : List (Option FrameResult)}
      (hi : mayWriteDecoder i = true) (h : Feeds bs s rs u) :
      Effect i s { u with returns := s.returns ++ feedResults rs }
  | answered {i : Instr} {s : State} {sel : Selector} {args : List Byte}
      (hi : commandOf i = some (sel, args)) :
      Effect i s ((dispatch sel args s).1.logReturn (.dispatch (dispatch sel args s).2))
  | reported {s : State} {bytes : List Byte} :
      Effect (.unknown bytes) s (s.logEvent (.reported (.unknown bytes)))
  | handed {i : Instr} {s : State} {bytes : List Byte} (hi : isDispatch i = false) :
      Effect i s (s.logReturn (.encoded bytes))
  | advanced {s : State} {a : Actuator} :
      Effect (.advance a) s ((advance a s).1.logReturn (.ramp (advance a s).2))
  | ticked {s m : State} (h : ingest s.cfg.burstMax s = .ok m) : Effect .tick s (afterIngest m)
  | reset {s : State} : Effect .reset s { State.resetOf s.cfg with
      rx := s.rx, tx := s.tx, acts := s.acts, results := s.results, ramps := s.ramps,
      returns := s.returns, inputs := s.inputs }

/-- One delivered FEED is a run of one byte. -/
theorem effect_deliver {i : Instr} {b : Byte} {s t : State} {x : Fed} (hi : mayWriteDecoder i = true)
    (hx : feed b s = .ok x) (h : deliver x = .next t) : Effect i s t := by
  cases h
  rw [State.logReturn, (feed_frame hx).returns]
  exact .fed hi (Feeds.single hx)

theorem effect_byteRow {c : Ctx} {i : Instr} {b : Byte} {s t : State}
    (he : encode c i = ⟨.rxByte, [b]⟩) (hi : mayWriteDecoder i = true) (h : exec i s = .next t) :
    Effect i s t := by
  obtain ⟨x, hx, hf⟩ := exec_byteRow he s
  cases hs : i.selected s.ctx with
  | false => rw [hx, hs] at h; cases h
  | true => rw [hx, hs, whenRow_true] at h; exact effect_deliver hi (hf hs) h

theorem seqRow_next {q : Byte} {judge : Frame → Fed} {s t : State} (h : seqRow q judge s = .next t) :
    s.inChecksummed .seekingChecksum = true ∧ ∃ a p, s.buffer = a :: q :: p := by
  by_cases hs : s.inChecksummed .seekingChecksum = true ∧ s.buffer[1]? = some q
  · exact ⟨hs.1, buffer_second_iff.mp hs.2⟩
  · rw [seqRow_refused judge hs] at h
    cases h

/-- A SEQBYTE row that runs is FEED of the checksum byte that matches (log entry 12). -/
theorem effect_judged {i : Instr} {s t : State} (hi : mayWriteDecoder i = true)
    (hs : s.inChecksummed .seekingChecksum = true) (h : deliver (judgeFrame s) = .next t) :
    Effect i s t := effect_deliver hi (feed_match hs rfl) h

theorem effect_received {d : Dialect} {bs : List Byte} {i : Instr} {s t : State}
    (hi : mayWriteDecoder i = true) (h : receive d bs s = .next t) : Effect i s t := by
  obtain ⟨rs, u, hr, rfl⟩ := receive_next h
  exact .fed hi hr

theorem effect_answered {i : Instr} {s t : State} {sel : Selector} {args : List Byte}
    (hi : commandOf i = some (sel, args)) (h : answered (dispatch sel args s) = .next t) :
    Effect i s t := by
  cases h
  exact .answered hi

/-- An accepted level is the value of its shortest spelling (00_scope.md R13). -/
theorem dispatch_dec (a : Actuator) (v : Level) (s : State) :
    dispatch a.selector (dec v) s = acceptSet a v s := by
  have hv : v.toNat ≤ 255 := by have := v.isLt; omega
  rw [dispatch_selector, dispatchSet_of_le (DecimalText.parseDec_dec v) hv]
  simp

/-- What an instruction that answers has done. -/
theorem exec_effect {i : Instr} {s t : State} (h : exec i s = .next t) : Effect i s t := by
  cases i
  case f args => exact effect_answered rfl h
  case p args => exact effect_answered rfl h
  case q args => exact effect_answered rfl h
  case dispatch sel args => exact effect_answered rfl h
  case replyQuery => exact effect_answered (args := []) rfl h
  case replyAccepted a v => exact effect_answered rfl ((congrArg answered (dispatch_dec a v s)).trans h)
  case replyRejected a args =>
    rw [exec, execReplyRejected] at h
    split at h
    · rename_i hr
      refine effect_answered (if_pos hr) ?_
      rw [dispatch_selector]
      exact h
    · cases h
  case unknown bytes =>
    rw [exec, execUnknown] at h
    split at h <;> cases h
    exact .reported
  case seqRepeat upper number =>
    obtain ⟨hs, a, p, hbuf⟩ := seqRow_next ((exec_seqRepeat_eq upper number s).symm.trans h)
    rw [exec_seqRepeat hs hbuf] at h
    exact effect_judged rfl hs h
  case seqNew upper number =>
    obtain ⟨hs, a, p, hbuf⟩ := seqRow_next ((exec_seqNew_eq upper number s).symm.trans h)
    rw [exec_seqNew hs hbuf] at h
    exact effect_judged rfl hs h
  case termEnd =>
    rw [exec, execTermEnd] at h
    split at h <;> cases h
    exact .handed rfl
  case termAck =>
    rw [exec, execTermAck] at h
    split at h <;> cases h
    exact .handed rfl
  case sframe body => exact effect_received rfl h
  case cframe n a q payload => exact effect_received rfl h
  case feedS b =>
    rw [exec, execFeedS] at h
    split at h
    · cases h
    · rename_i hd
      split at h
      · rename_i x hx
        exact effect_deliver rfl ((feed_simple hd b).trans hx) h
      · cases h
  case feedC b =>
    rw [exec, execFeedC] at h
    split at h
    · cases h
    · rename_i hd
      exact effect_deliver rfl (feed_checksummed hd b) h
  case encodeC a q payload => cases h; exact .handed rfl
  case advance a => cases h; exact .advanced
  case tick =>
    obtain ⟨m, hm, rfl⟩ := exec_tick_next h
    exact .ticked hm
  case reset => cases h; exact .reset
  all_goals exact effect_byteRow (c := Ctx.reference) rfl rfl h

/-! ## Who writes what -/

/-- DISPATCH of a command of another actuator, or of arguments it rejects, leaves the target. -/
theorem dispatch_keeps_target {sel : Selector} {args : List Byte} {a : Actuator}
    (h : sel.actuator ≠ some a ∨ rejectable args = true) (s : State) :
    (dispatch sel args s).1.target a = s.target a := by
  unfold dispatch
  cases hs : sel.actuator with
  | none => exact target_txWrite s _ a
  | some b =>
    dsimp only
    rcases h with hne | hr
    · have hab : a ≠ b := fun e => hne (by rw [hs, e])
      rcases dispatchSet_cases b args s with ⟨-, e⟩ | ⟨_, -, -, e⟩ | ⟨_, -, -, e⟩ <;> rw [e]
      · exact target_txWrite s _ a
      · exact target_txWrite s _ a
      · exact (target_txWrite _ _ a).trans (target_setTarget_other s b a _ hab)
    · obtain ⟨st, e, -⟩ := dispatchSet_rejectable hr b s
      rw [e]
      exact target_txWrite s _ a

theorem dispatch_current (sel : Selector) (args : List Byte) (s : State) (a : Actuator) :
    (dispatch sel args s).1.current a = s.current a := by
  rw [dispatch_frame]
  cases a <;> rfl

/-- A form of DISPATCH that does not own a target carries out no command that would write it. -/
theorem commandOf_not_owner {i : Instr} {sel : Selector} {args : List Byte} {a : Actuator}
    (hi : commandOf i = some (sel, args)) (h : mayWriteTarget a i = false) :
    sel.actuator ≠ some a ∨ rejectable args = true := by
  cases i <;> simp only [commandOf, Option.some.injEq, Prod.mk.injEq, reduceCtorEq] at hi
  case f => obtain ⟨rfl, -⟩ := hi; cases a <;> simp [mayWriteTarget] at h; left; decide
  case p => obtain ⟨rfl, -⟩ := hi; cases a <;> simp [mayWriteTarget] at h; left; decide
  case q => obtain ⟨rfl, -⟩ := hi; exact .inl (by simp [Selector.actuator])
  case replyQuery => obtain ⟨rfl, -⟩ := hi; exact .inl (by simp [Selector.actuator])
  case replyAccepted b v =>
    obtain ⟨rfl, -⟩ := hi
    left
    cases a <;> cases b <;> simp [mayWriteTarget] at h <;> decide
  case replyRejected b args =>
    split at hi <;> cases hi
    exact .inr ‹_›
  case dispatch sel args =>
    obtain ⟨rfl, -⟩ := hi
    left
    cases a <;> cases sel <;> simp [mayWriteTarget, Actuator.selector] at h <;> decide

/-- The decoder's elements after the two later steps of a tick are those the reads left. -/
theorem afterIngest_sameDecoder (m : State) : sameDecoder m (afterIngest m) := by
  rw [afterIngest_frame, dispatchStep_frame]
  exact ⟨rfl, rfl, rfl, rfl, rfl⟩

theorem advance_sameDecoder (a : Actuator) (s : State) : sameDecoder s (advance a s).1 := by
  rw [advance_frame]
  exact ⟨rfl, rfl, rfl, rfl, rfl⟩

theorem dispatch_sameDecoder (sel : Selector) (args : List Byte) (s : State) :
    sameDecoder s (dispatch sel args s).1 := by
  rw [dispatch_frame]
  exact ⟨rfl, rfl, rfl, rfl, rfl⟩

/-- Settles O11: by the effects, each with what it leaves alone. -/
theorem onlyOwnersWrite : Obligations.OnlyOwnersWrite := by
  intro i s t h
  cases exec_effect h with
  | fed hi hr =>
    have hf := hr.frame
    refine ⟨fun hn => absurd (hi.symm.trans hn) (by decide), fun _ => hf.pending, fun a _ => ?_,
      fun a _ => ?_⟩
    · cases a
      · exact hf.targetFan
      · exact hf.targetPump
    · cases a
      · exact hf.currentFan
      · exact hf.currentPump
  | answered hi =>
    refine ⟨fun _ => dispatch_sameDecoder _ _ s, fun _ => ?_,
      fun a hn => dispatch_keeps_target (commandOf_not_owner hi hn) s,
      fun a _ => dispatch_current _ _ s a⟩
    rw [dispatch_frame]
    rfl
  | reported => exact ⟨fun _ => ⟨rfl, rfl, rfl, rfl, rfl⟩, fun _ => rfl, fun _ _ => rfl, fun _ _ => rfl⟩
  | handed hi => exact ⟨fun _ => ⟨rfl, rfl, rfl, rfl, rfl⟩, fun _ => rfl, fun _ _ => rfl, fun _ _ => rfl⟩
  | @advanced _ a =>
    refine ⟨fun _ => advance_sameDecoder a s, fun _ => ?_,
      fun b _ => congrFun (advance_target a s) b, fun b hb => ?_⟩
    · rw [advance_frame]; rfl
    · have hne : b ≠ a := fun e => by simp [mayWriteCurrent, e] at hb
      exact Ramp.advance_current_of_ne hne s
  | ticked hm =>
    exact ⟨fun hn => (by cases hn), fun hn => (by cases hn), fun _ hn => (by cases hn),
      fun _ hn => (by cases hn)⟩
  | reset =>
    exact ⟨fun hn => (by cases hn), fun hn => (by cases hn), fun _ hn => (by cases hn),
      fun _ hn => (by cases hn)⟩

/-! ## Parameters and histories -/

/-- The parameters stay, and each history is continued (10_state.md R35, R37). -/
structure Grows (s t : State) : Prop where
  cfg : t.cfg = s.cfg
  tx : s.tx <+: t.tx
  acts : s.acts <+: t.acts
  results : s.results <+: t.results
  ramps : s.ramps <+: t.ramps
  returns : s.returns <+: t.returns

/-- What leaves the histories alone, or continues them. -/
theorem grows_of_eq {s t : State} (hc : t.cfg = s.cfg) (ht : s.tx <+: t.tx) (ha : s.acts <+: t.acts)
    (hr : t.results = s.results) (hp : t.ramps = s.ramps) (hv : s.returns <+: t.returns) : Grows s t :=
  ⟨hc, ht, ha, hr ▸ List.prefix_rfl, hp ▸ List.prefix_rfl, hv⟩

theorem Grows.trans {s t u : State} (h : Grows s t) (h' : Grows t u) : Grows s u :=
  ⟨h'.cfg.trans h.cfg, h.tx.trans h'.tx, h.acts.trans h'.acts, h.results.trans h'.results,
    h.ramps.trans h'.ramps, h.returns.trans h'.returns⟩

theorem grows_ingest {n : Nat} {s m : State} (h : ingest n s = .ok m) : Grows s m := by
  have f := ingest_frame n s m h
  exact grows_of_eq f.cfg (f.tx ▸ List.prefix_rfl) (f.acts ▸ List.prefix_rfl) f.results f.ramps
    (f.returns ▸ List.prefix_rfl)

theorem dispatch_grows (sel : Selector) (args : List Byte) (s : State) :
    Grows s (dispatch sel args s).1 := by
  obtain ⟨r, ht, -⟩ := dispatch_tx sel args s
  rw [dispatch_frame]
  exact grows_of_eq rfl ⟨r, ht.symm⟩ List.prefix_rfl rfl rfl List.prefix_rfl

theorem advance_grows (a : Actuator) (s : State) : Grows s (advance a s).1 := by
  have ha := Ramp.advance_acts a s
  rw [advance_frame]
  exact grows_of_eq rfl List.prefix_rfl ⟨_, ha.symm⟩ rfl rfl List.prefix_rfl

theorem logReturn_grows (s : State) (r : ReturnValue) : Grows s (s.logReturn r) :=
  grows_of_eq rfl List.prefix_rfl List.prefix_rfl rfl rfl (List.prefix_append _ _)

theorem logEvent_grows (s : State) (e : TickEvent) : Grows s (s.logEvent e) :=
  ⟨rfl, List.prefix_rfl, List.prefix_rfl, List.prefix_append _ _, List.prefix_rfl, List.prefix_rfl⟩

theorem logRamps_grows (s : State) (f p : RampStatus) : Grows s (s.logRamps f p) :=
  ⟨rfl, List.prefix_rfl, List.prefix_rfl, List.prefix_rfl, List.prefix_append _ _, List.prefix_rfl⟩

theorem setPending_grows (s : State) (p : Option FrameResult) : Grows s (s.setPending p) :=
  grows_of_eq rfl List.prefix_rfl List.prefix_rfl rfl rfl List.prefix_rfl

theorem grows_refl (s : State) : Grows s s :=
  grows_of_eq rfl List.prefix_rfl List.prefix_rfl rfl rfl List.prefix_rfl

theorem dispatchStep_grows (s : State) : Grows s (dispatchStep s).1 := by
  rcases dispatchStep_cases s with ⟨-, e⟩ | ⟨_, _, -, -, -, e⟩ | ⟨sel, args, -, -, e⟩ | ⟨_, -, -, e⟩ <;>
    rw [e]
  · exact grows_refl s
  · exact grows_refl s
  · exact (dispatch_grows sel args s).trans (setPending_grows _ _)
  · exact setPending_grows s _

theorem afterIngest_grows (s : State) : Grows s (afterIngest s) := by
  rw [afterIngest_eq]
  exact (dispatchStep_grows s).trans ((advance_grows .fan _).trans ((advance_grows .pump _).trans
    ((logEvent_grows _ _).trans (logRamps_grows _ _ _))))

theorem exec_grows {i : Instr} {s t : State} (h : exec i s = .next t) : Grows s t := by
  cases exec_effect h with
  | fed hi hr =>
    have f := hr.frame
    exact grows_of_eq f.cfg (f.tx ▸ List.prefix_rfl) (f.acts ▸ List.prefix_rfl) f.results f.ramps
      (List.prefix_append _ _)
  | answered hi => exact (dispatch_grows _ _ s).trans (logReturn_grows _ _)
  | reported => exact logEvent_grows s _
  | handed hi => exact logReturn_grows s _
  | advanced => exact (advance_grows _ s).trans (logReturn_grows _ _)
  | ticked hm => exact (grows_ingest hm).trans (afterIngest_grows _)
  | reset => exact grows_of_eq rfl List.prefix_rfl List.prefix_rfl rfl rfl List.prefix_rfl

/-! ## Replies -/

/-- A reply of DISPATCH is in one of the three forms. -/
theorem dispatch_reply (sel : Selector) (args : List Byte) (s : State) :
    ∃ r, IsReply s r ∧ (dispatch sel args s).1.tx = s.tx ++ r := by
  obtain ⟨r, ht, hr⟩ := dispatch_tx sel args s
  refine ⟨r, ?_, ht⟩
  rcases hr with h | ⟨a, hrej, h⟩ | h
  · exact .inl h
  · exact .inr (.inl ⟨a, args, hrej, h⟩)
  · exact .inr (.inr h)

theorem isReply_ne_nil {s : State} {r : List Byte} (h : IsReply s r) : r ≠ [] := by
  rcases h with ⟨a, v, rfl⟩ | ⟨a, args, -, rfl⟩ | rfl <;>
    simp [acceptedReply, rejectedReply, queryReply]

theorem mayWriteDecoder_of_isDispatch {i : Instr} (h : isDispatch i = true) :
    mayWriteDecoder i = false := by
  cases i <;> simp [isDispatch] at h <;> rfl

theorem isDispatch_of_commandOf {i : Instr} {c : Selector × List Byte} (h : commandOf i = some c) :
    isDispatch i = true := by
  cases i <;> simp [commandOf] at h <;> rfl

theorem ne_tick_of_commandOf {i : Instr} {c : Selector × List Byte} (h : commandOf i = some c) :
    i ≠ .tick := by
  rintro rfl
  cases h

/-- The levels and parameters that a reply is made of are those before the reads of a tick. -/
theorem isReply_of_ingest {n : Nat} {s m : State} {r : List Byte} (h : ingest n s = .ok m)
    (hr : IsReply m r) : IsReply s r := by
  have f := ingest_frame n s m h
  unfold IsReply at hr ⊢
  rwa [f.cfg, f.currentFan, f.currentPump] at hr

theorem afterIngest_tx (m : State) : (afterIngest m).tx = (dispatchStep m).1.tx := by
  rw [afterIngest_frame]

/-- A tick writes no reply but that of its one dispatch (42_dispatcher.md R161). -/
theorem dispatchStep_tx (m : State) :
    (dispatchStep m).1.tx = m.tx ∨ ∃ r, IsReply m r ∧ (dispatchStep m).1.tx = m.tx ++ r := by
  rcases dispatchStep_cases m with ⟨-, e⟩ | ⟨_, _, -, -, -, e⟩ | ⟨sel, args, -, -, e⟩ | ⟨_, -, -, e⟩ <;>
    rw [e]
  · exact .inl rfl
  · exact .inl rfl
  · exact .inr (dispatch_reply sel args m)
  · exact .inl rfl

/-- The status of a direct DISPATCH (42_dispatcher.md R152): an error leaves both targets and is one of F or
P; Q is answered. -/
theorem dispatch_status (sel : Selector) (args : List Byte) (s : State) :
    ((dispatch sel args s).2 = .argumentUnparseable ∨ (dispatch sel args s).2 = .argumentOutOfRange →
      (dispatch sel args s).1.targetFan = s.targetFan ∧
      (dispatch sel args s).1.targetPump = s.targetPump ∧ (sel = .f ∨ sel = .p)) ∧
    (sel = .q → (dispatch sel args s).2 = .queryAnswered) := by
  have hset : ∀ a, (dispatchSet a args s).2 = .argumentUnparseable ∨
      (dispatchSet a args s).2 = .argumentOutOfRange →
      (dispatchSet a args s).1.targetFan = s.targetFan ∧
      (dispatchSet a args s).1.targetPump = s.targetPump := by
    intro a
    rcases dispatchSet_cases a args s with ⟨-, e⟩ | ⟨_, -, -, e⟩ | ⟨_, -, -, e⟩ <;> rw [e] <;> simp
  cases sel
  case f => exact ⟨fun h => ⟨(hset .fan h).1, (hset .fan h).2, .inl rfl⟩, by simp⟩
  case p => exact ⟨fun h => ⟨(hset .pump h).1, (hset .pump h).2, .inr rfl⟩, by simp⟩
  case q =>
    refine ⟨fun h => ?_, fun _ => rfl⟩
    rcases h with h | h <;> cases h

/-- Settles O43: by the effects, and by the status of each case of DISPATCH. -/
theorem oneReplyPerDispatchAndErrorsKeepTarget : Obligations.OneReplyPerDispatchAndErrorsKeepTarget := by
  refine ⟨fun i s t h => ?_, fun s sel args => ?_⟩
  · cases exec_effect h with
    | fed hi hr =>
      refine ⟨fun hd => ?_, fun _ => .inl hr.frame.tx, fun _ _ => hr.frame.tx⟩
      rw [mayWriteDecoder_of_isDispatch hd] at hi
      cases hi
    | answered hi =>
      refine ⟨fun _ => dispatch_reply _ _ s, fun ht => absurd ht (ne_tick_of_commandOf hi), fun hd => ?_⟩
      rw [isDispatch_of_commandOf hi] at hd
      cases hd
    | reported => exact ⟨fun hd => (by cases hd), fun _ => .inl rfl, fun _ _ => rfl⟩
    | handed hi => exact ⟨fun hd => (by rw [hi] at hd; cases hd), fun _ => .inl rfl, fun _ _ => rfl⟩
    | @advanced _ a =>
      have htx : (advance a s).1.tx = s.tx := by rw [advance_frame]
      exact ⟨fun hd => (by cases hd), fun ht => (by cases ht), fun _ _ => htx⟩
    | @ticked _ m hm =>
      refine ⟨fun hd => (by cases hd), fun _ => ?_, fun _ ht => absurd rfl ht⟩
      rw [afterIngest_tx, ← (ingest_frame _ s m hm).tx]
      exact (dispatchStep_tx m).imp id fun ⟨r, hr, e⟩ => ⟨r, isReply_of_ingest hm hr, e⟩
    | reset => exact ⟨fun hd => (by cases hd), fun _ => .inl rfl, fun _ _ => rfl⟩
  · obtain ⟨r, hr, ht⟩ := dispatch_reply sel args s
    obtain ⟨herr, hq⟩ := dispatch_status sel args s
    have hrets : (dispatch sel args s).1.returns = s.returns := by rw [dispatch_frame]
    refine ⟨_, r, _, rfl, ht, isReply_ne_nil hr, ?_, herr, hq⟩
    rw [logReturn_returns, hrets]

/-- Settles O60. -/
theorem resetRestoresEveryElement : Obligations.ResetRestoresEveryElement := fun _ => rfl

end Sys2Proof.Effects
end

section
/-! Steps (44_tick.md R190; log entry 2) and the block invariant (10_state.md R38): what the next step runs,
and that every step keeps the invariant and the loop never stops. -/

namespace Sys2Proof.Invariants

open Sys2Proof Sys2Proof.Machine Sys2Proof.Safety Sys2Proof.Words Sys2Proof.Rows Sys2Proof.Runs
  Sys2Proof.Frames Sys2Proof.Effects Sys2Proof.SimpleDecoder

/-! ## What a step runs -/

theorem step_refused {s : State} (h : s.cfg.ok = false) : step s = .refused .illFormedParameters := by
  simp [step, h]

theorem step_call {s : State} {w : Call} {rest : List Input} {i : Instr} (hok : s.cfg.ok = true)
    (hin : s.inputs = .call w :: rest) (hi : decode s.ctx w = .ok i) :
    step s = exec i (s.setInputs rest) := by simp [step, fetch, hok, hin, hi]

theorem step_undecodable {s : State} {w : Call} {rest : List Input} {e : DecodeError}
    (hok : s.cfg.ok = true) (hin : s.inputs = .call w :: rest) (he : decode s.ctx w = .error e) :
    step s = .refused (.undecodable e) := by simp [step, fetch, hok, hin, he]

theorem step_arrive {s : State} {bs : List Byte} {rest : List Input} (hok : s.cfg.ok = true)
    (hin : s.inputs = .arrive bs :: rest) :
    step s = .next ((s.setRx (s.rx ++ bs)).setInputs rest) := by simp [step, fetch, hok, hin]

theorem step_idle {s : State} (hok : s.cfg.ok = true) (hin : s.inputs = []) :
    step s = exec .tick s := by simp [step, fetch, hok, hin]

/-- Settles O6. -/
theorem stepRunsDecodedInstruction : Obligations.StepRunsDecodedInstruction := fun _ =>
  ⟨step_refused, fun hok => ⟨fun _ _ _ => step_call hok, fun _ _ _ => step_undecodable hok,
    fun _ _ => step_arrive hok, step_idle hok⟩⟩

/-- What a step that answers has done. -/
theorem step_cases {s t : State} (h : step s = .next t) :
    s.cfg.ok = true ∧
      ((∃ bs rest, t = (s.setRx (s.rx ++ bs)).setInputs rest) ∨
        ∃ i rest, exec i (s.setInputs rest) = .next t) := by
  cases hok : s.cfg.ok with
  | false => rw [step_refused hok] at h; cases h
  | true =>
    refine ⟨rfl, ?_⟩
    match hin : s.inputs with
    | [] => exact .inr ⟨.tick, [], by rw [← hin]; exact (step_idle hok hin).symm.trans h⟩
    | .arrive bs :: rest =>
      rw [step_arrive hok hin] at h
      cases h
      exact .inl ⟨bs, rest, rfl⟩
    | .call w :: rest =>
      cases hw : decode s.ctx w with
      | ok i => exact .inr ⟨i, rest, (step_call hok hin hw).symm.trans h⟩
      | error e => rw [step_undecodable hok hin hw] at h; cases h

/-- Settles O12: a step's instruction, or the bytes that arrive, continue the histories. -/
theorem parametersStayAndHistoriesGrow : Obligations.ParametersStayAndHistoriesGrow := by
  intro s t h
  have grows : Grows s t := by
    obtain ⟨-, ⟨bs, rest, rfl⟩ | ⟨i, rest, hi⟩⟩ := step_cases h
    · exact grows_of_eq rfl List.prefix_rfl List.prefix_rfl rfl rfl List.prefix_rfl
    · obtain ⟨h1, h2, h3, h4, h5, h6⟩ := exec_grows hi
      exact ⟨h1, h2, h3, h4, h5, h6⟩
  exact ⟨grows.cfg, grows.tx, grows.acts, grows.results, grows.ramps, grows.returns⟩

/-! ## The words of the opcode table -/

theorem wordBytes_eight (w : Nat) : wordBytes 8 w = [BitVec.ofNat 8 w] := by
  simp [wordBytes, List.range_one]

/-- A table byte is read as the same instruction in every context that its row asks for (log entry 10). -/
theorem decode_tableCall (b : Byte) : ∃ i, ∀ c, decode (tableCtx [b] c) (tableCall [b]) = .ok i := by
  by_cases hs : b = START
  · refine ⟨.feedSStart, fun c => ?_⟩
    rw [hs]
    exact decodeRx_of_selected (c := tableCtx [START] c) (i := .feedSStart) rfl rfl
  · by_cases he : b = END
    · refine ⟨.feedSEnd, fun c => ?_⟩
      rw [he]
      exact decodeRx_of_selected (c := tableCtx [END] c) (i := .feedSEnd) rfl rfl
    · cases hsel : selectorOf b with
      | some sel =>
        have hb := selectorOf_eq_some_iff.mp hsel
        refine ⟨commandRow sel [], fun c => ?_⟩
        have hcall : tableCall [b] = ⟨.selector, [sel.byte]⟩ := by
          simp [tableCall, tableFormat, hs, he, hsel, hb.symm]
        rw [hcall]
        exact decodeSelector_byte (args := []) rfl
      | none =>
        by_cases ha : b = ACK
        · exact ⟨.termAck, fun c => by rw [ha]; rfl⟩
        · refine ⟨if repeatFlag b then .seqRepeat (seqUpper b) (seqNumber b)
            else .seqNew (seqUpper b) (seqNumber b), fun c => ?_⟩
          have hcall : tableCall [b] = ⟨.seqByte, [b]⟩ := by
            simp [tableCall, tableFormat, hs, he, hsel, ha]
          have hseq := seqByte_eta b
          rw [hcall]
          refine (congrArg decodeSeq hseq.symm).trans (decodeSeq_seqByte ?_)
          rwa [hseq]

theorem tableState_ctx (b : Byte) (s : State) : (tableState [b] s).ctx = tableCtx [b] s.ctx := by
  unfold tableState tableCtx
  dsimp only
  repeat' split
  all_goals rfl

/-- Settles O7: the placed call is decoded in the context that its row asks for. -/
theorem placedTableWordRuns : Obligations.PlacedTableWordRuns := by
  intro s w hok
  obtain ⟨i, hi⟩ := decode_tableCall (BitVec.ofNat 8 w)
  refine ⟨i, ?_, ?_⟩
  · rw [decodeTableWord, wordBytes_eight, hi]
  · refine step_call hok rfl ?_
    have hctx := tableState_ctx (BitVec.ofNat 8 w) s
    rw [← wordBytes_eight] at hctx hi
    exact (congrArg (decode · _) hctx).trans (hi s.ctx)

/-! ## The decoder's part of the invariant -/

/-- The block invariant without the place of pending, which the reads of a tick suspend. -/
structure DecoderInv (s : State) : Prop where
  params : s.cfg.ok = true
  bounded : s.buffer.length ≤ s.cfg.maxFrameLen
  seekingEmpty : s.mode = .seekingStart → s.buffer = []
  simpleMode : s.cfg.dialect = .simple → s.mode ≠ .seekingChecksum
  simpleRelay : s.cfg.dialect = .simple → s.lastSequence = none ∧ s.relay = none
  checksum : s.cfg.dialect = .checksummed → checksumAgrees s
  relayed : relayAgrees s

theorem blockInv_iff (s : State) : BlockInv s ↔ DecoderInv s ∧ pendingHeld s := by
  constructor
  · rintro ⟨h1, h2, h3, h4, h5, h6, h7, h8⟩
    exact ⟨⟨h1, by simpa [Memory.wf] using h2, h3, h4, h5, h6, h7⟩, h8⟩
  · rintro ⟨⟨h1, h2, h3, h4, h5, h6, h7⟩, h8⟩
    exact ⟨h1, by simpa [Memory.wf] using h2, h3, h4, h5, h6, h7, h8⟩

/-- It speaks of the parameters and the decoder's elements alone. -/
theorem decoderInv_congr {s t : State} (h : DecoderInv s) (hc : t.cfg = s.cfg) (hd : sameDecoder s t) :
    DecoderInv t := by
  obtain ⟨hmode, hbuf, hcks, hlast, hrelay⟩ := hd
  obtain ⟨h1, h2, h3, h4, h5, h6, h7⟩ := h
  constructor
  · rwa [hc]
  · rwa [hc, hbuf]
  · rwa [hmode, hbuf]
  · rwa [hc, hmode]
  · rwa [hc, hlast, hrelay]
  · unfold checksumAgrees at h6 ⊢
    rwa [hc, hmode, hbuf, hcks]
  · unfold relayAgrees at h7 ⊢
    rwa [hlast, hrelay]

theorem pendingHeld_congr {s t : State} (h : pendingHeld s) (hc : t.cfg = s.cfg)
    (hp : t.pending = s.pending) : pendingHeld t := by
  unfold pendingHeld at h ⊢
  rwa [hp, hc]

/-- The ready state (60_exceptions.md R214) meets it whatever last_sequence and relay hold. -/
theorem decoderInv_ready {s : State} (h : DecoderInv s) : DecoderInv s.ready :=
  ⟨h.params, Nat.zero_le _, fun _ => rfl, fun _ => by simp, h.simpleRelay, fun _ => trivial, h.relayed⟩

theorem feedSimple_decoderInv {b : Byte} {s : State} {x : Fed} (hd : s.cfg.dialect = .simple)
    (h : DecoderInv s) (hx : feedSimple b s = .ok x) : DecoderInv x.1 := by
  have notChecked : s.cfg.dialect = .checksummed → False := fun e => by rw [hd] at e; cases e
  rcases feedSimple_cases hx with
    ⟨-, -, rfl⟩ | ⟨-, -, rfl⟩ | ⟨-, -, rfl⟩ | ⟨-, -, -, rfl⟩ | ⟨hm, -, hf, rfl⟩
  · -- case start
    exact ⟨h.params, Nat.zero_le _, fun _ => rfl, fun _ => by simp [simpleStart], h.simpleRelay,
      fun e => (notChecked e).elim, h.relayed⟩
  · exact h
  · exact decoderInv_ready h
  · exact decoderInv_ready h
  · -- case append
    refine ⟨h.params, ?_, fun e => ?_, h.simpleMode, h.simpleRelay, fun e => (notChecked e).elim,
      h.relayed⟩
    · have := (full_eq_false_iff s).mp hf
      simp [simpleAppend]
      omega
    · rw [simpleAppend, memAppend_mode, hm] at e
      cases e

/-- A verified frame is short, a duplicate or accepted; each leaves the ready state, the last with
last_sequence and relay written together (10_state.md R30). -/
theorem judgeFrame_decoderInv {s : State} (hd : s.cfg.dialect = .checksummed) (h : DecoderInv s) :
    DecoderInv (judgeFrame s).1 := by
  rcases judgeFrame_cases s with ⟨-, e⟩ | ⟨_, -, -, e⟩ | ⟨fr, -, -, e⟩ <;> rw [e]
  · exact decoderInv_ready h
  · exact decoderInv_ready h
  · have hr := decoderInv_ready h
    exact ⟨hr.params, hr.bounded, hr.seekingEmpty, hr.simpleMode,
      fun hs => absurd (hs.symm.trans hd) (by decide), fun _ => trivial, rfl⟩

theorem feedChecked_decoderInv (b : Byte) {s : State} (hd : s.cfg.dialect = .checksummed)
    (h : DecoderInv s) : DecoderInv (feedChecked b s).1 := by
  have notSimple : s.cfg.dialect = .simple → False := fun e => by rw [hd] at e; cases e
  rcases feedChecked_cases b s with ⟨-, -, e⟩ | ⟨-, -, e⟩ | ⟨hm, -, e⟩ | ⟨-, -, -, e⟩ | ⟨hm, -, hf, e⟩ |
    ⟨-, -, e⟩ | ⟨-, -, e⟩ <;> rw [e]
  · -- case start
    exact ⟨h.params, Nat.zero_le _, fun _ => rfl, fun e => (notSimple e).elim,
      fun e => (notSimple e).elim, fun _ => by simp [checksumAgrees, checkedStart, xorAll], h.relayed⟩
  · exact h
  · -- case end
    refine ⟨h.params, h.bounded, fun e => (by cases e), fun e => (notSimple e).elim,
      fun e => (notSimple e).elim, fun _ => ?_, h.relayed⟩
    have hcks := h.checksum hd
    simp only [checksumAgrees, hm] at hcks
    simp [checksumAgrees, checkedEnd, hcks]
  · exact decoderInv_ready h
  · -- case append
    refine ⟨h.params, ?_, fun e => ?_, fun e => (notSimple e).elim, fun e => (notSimple e).elim,
      fun _ => ?_, h.relayed⟩
    · have := (full_eq_false_iff s).mp hf
      simp [checkedAppend]
      omega
    · rw [checkedAppend, setCks_mode, memAppend_mode, hm] at e
      cases e
    · have hcks := h.checksum hd
      simp only [checksumAgrees, hm] at hcks
      simp [checksumAgrees, checkedAppend, hm, hcks, xorAll_append, BitVec.xor_assoc]
  · exact decoderInv_ready h
  · exact judgeFrame_decoderInv hd h

theorem feed_decoderInv {b : Byte} {s : State} {x : Fed} (h : DecoderInv s) (hx : feed b s = .ok x) :
    DecoderInv x.1 := by
  cases hd : s.cfg.dialect with
  | simple => exact feedSimple_decoderInv hd h (by rwa [feed_simple hd] at hx)
  | checksummed =>
    rw [feed_checksummed hd] at hx
    cases hx
    exact feedChecked_decoderInv b hd h

theorem Feeds.decoderInv {bs : List Byte} {s t : State} {rs : List (Option FrameResult)}
    (h : Feeds bs s rs t) (hi : DecoderInv s) : DecoderInv t := by
  induction h with
  | nil => exact hi
  | cons hx _ ih => exact ih (feed_decoderInv hi hx)

/-! ## A tick and the invariant -/

/-- While a tick reads, pending may hold any result; a command only on a simple block. -/
def pendingFits (s : State) : Prop :=
  ∀ sel args, s.pending = some (.command sel args) → s.cfg.dialect = .simple

/-- FEED_C yields no command (41_decoder_checksummed.md R121 to R129). -/
theorem feedChecked_no_command {b : Byte} {s : State} {sel : Selector} {args : List Byte} :
    (feedChecked b s).2 ≠ some (.command sel args) := by
  rcases feedChecked_cases b s with ⟨-, -, e⟩ | ⟨-, -, e⟩ | ⟨-, -, e⟩ | ⟨-, -, -, e⟩ | ⟨-, -, -, e⟩ |
    ⟨-, -, e⟩ | ⟨-, -, e⟩ <;> rw [e]
  case inr.inr.inr.inr.inr.inr =>
    rcases judgeFrame_cases s with ⟨-, e⟩ | ⟨_, -, -, e⟩ | ⟨_, -, -, e⟩ <;> rw [e] <;>
      simp [checkedShort, checkedDuplicate, checkedAccept]
  all_goals
    simp [checkedStart, checkedDiscard, checkedEnd, checkedOverflow, checkedAppend, checkedMismatch, raise]

theorem feed_command {b : Byte} {s : State} {x : Fed} {sel : Selector} {args : List Byte}
    (hx : feed b s = .ok x) (h : x.2 = some (.command sel args)) : s.cfg.dialect = .simple := by
  cases hd : s.cfg.dialect with
  | simple => rfl
  | checksummed =>
    rw [feed_checksummed hd] at hx
    cases hx
    exact absurd h feedChecked_no_command

/-- The reads of a tick, each a FEED with an empty pending slot, keep any property that FEED, taking a byte
and filling pending keep. -/
theorem ingest_induction {P : State → Prop} (hrx : ∀ s rx, P s → P (s.setRx rx))
    (hfeed : ∀ {b s x}, s.pending = none → P s → feed b s = .ok x → P (fillPending x))
    {n : Nat} {s m : State} (hs : P s) (h : ingest n s = .ok m) : P m := by
  induction n generalizing s with
  | zero => cases h; exact hs
  | succ n ih =>
    unfold ingest at h
    split at h
    · cases h; exact hs
    · cases h; exact hs
    · split at h
      · cases h
      · rename_i b rest hp _ _ x hx
        exact ih (hfeed (s := s.setRx rest) hp (hrx s rest hs) hx) h

theorem fillPending_sameDecoder (x : Fed) : sameDecoder x.1 (fillPending x) := by
  rcases x with ⟨s, _ | r⟩ <;> exact ⟨rfl, rfl, rfl, rfl, rfl⟩

theorem ingest_decoderInv {n : Nat} {s m : State} (hs : DecoderInv s) (h : ingest n s = .ok m) :
    DecoderInv m :=
  ingest_induction (P := DecoderInv) (fun _ _ hi => decoderInv_congr hi rfl ⟨rfl, rfl, rfl, rfl, rfl⟩)
    (fun _ hi hx => decoderInv_congr (feed_decoderInv hi hx) (fillPending_frame _).cfg
      (fillPending_sameDecoder _)) hs h

theorem ingest_pendingFits {n : Nat} {s m : State} (hs : pendingFits s) (h : ingest n s = .ok m) :
    pendingFits m := by
  refine ingest_induction (P := pendingFits) (fun s rx hp => hp) (fun {b s x} hn _ hx => ?_) hs h
  intro sel args hp
  have hcfg : (fillPending x).cfg = s.cfg := (fillPending_frame x).cfg.trans (feed_frame hx).cfg
  rw [hcfg]
  cases hr : x.2 with
  | none =>
    rw [fillPending, hr, (feed_frame hx).pending, hn] at hp
    cases hp
  | some r =>
    rw [fillPending, hr] at hp
    exact feed_command hx (hr.trans hp)

theorem pendingFits_of_held {s : State} (h : pendingHeld s) : pendingFits s := by
  intro sel args hp
  rw [pendingHeld, hp] at h
  exact h.2

/-- After the dispatch step pending is empty or still holds the set command (44_tick.md R194 to R196). -/
theorem dispatchStep_pendingHeld {m : State} (h : pendingFits m) : pendingHeld (dispatchStep m).1 := by
  rcases dispatchStep_cases m with ⟨hp, e⟩ | ⟨sel, args, hp, hset, -, e⟩ | ⟨_, _, -, -, e⟩ | ⟨_, -, -, e⟩ <;>
    rw [e]
  · rw [pendingHeld, hp]; trivial
  · rw [pendingHeld, hp]; exact ⟨hset, h sel args hp⟩
  · trivial
  · trivial

theorem afterIngest_pending (m : State) : (afterIngest m).pending = (dispatchStep m).1.pending := by
  rw [afterIngest_frame]

theorem afterIngest_cfg (m : State) : (afterIngest m).cfg = m.cfg := (afterIngest_grows m).cfg

theorem tick_blockInv {s m : State} (hs : BlockInv s) (h : ingest s.cfg.burstMax s = .ok m) :
    BlockInv (afterIngest m) := by
  rw [blockInv_iff] at hs ⊢
  refine ⟨decoderInv_congr (ingest_decoderInv hs.1 h) (afterIngest_cfg m) (afterIngest_sameDecoder m), ?_⟩
  refine pendingHeld_congr
    (dispatchStep_pendingHeld (ingest_pendingFits (pendingFits_of_held hs.2) h)) ?_ (afterIngest_pending m)
  rw [afterIngest_cfg, (dispatchStep_grows m).cfg]

/-! ## Every step keeps the invariant -/

/-- Settles O9. -/
theorem resetHasInvariant : Obligations.ResetHasInvariant := fun _ hc =>
  ⟨hc, rfl, fun _ => rfl, fun _ => by simp [State.resetOf], fun _ => ⟨rfl, rfl⟩, fun _ => trivial, rfl,
    trivial⟩

theorem blockInv_congr {s t : State} (h : BlockInv s) (hc : t.cfg = s.cfg) (hd : sameDecoder s t)
    (hp : t.pending = s.pending) : BlockInv t := by
  rw [blockInv_iff] at h ⊢
  exact ⟨decoderInv_congr h.1 hc hd, pendingHeld_congr h.2 hc hp⟩

/-- By the effects: a run of FEED and a tick have their own lemmas, RESET starts afresh, and the others own
neither the decoder nor pending. -/
theorem exec_blockInv {i : Instr} {s t : State} (hs : BlockInv s) (h : exec i s = .next t) :
    BlockInv t := by
  have hcfg := (exec_grows h).cfg
  cases exec_effect h with
  | @fed _ _ u _ _ hi hr =>
    have hu : BlockInv u := by
      rw [blockInv_iff] at hs ⊢
      exact ⟨Feeds.decoderInv hr hs.1, pendingHeld_congr hs.2 hr.frame.cfg hr.frame.pending⟩
    exact blockInv_congr hu rfl ⟨rfl, rfl, rfl, rfl, rfl⟩ rfl
  | answered hi =>
    refine blockInv_congr hs hcfg (dispatch_sameDecoder _ _ s) ?_
    rw [dispatch_frame]; rfl
  | reported => exact blockInv_congr hs rfl ⟨rfl, rfl, rfl, rfl, rfl⟩ rfl
  | handed hi => exact blockInv_congr hs rfl ⟨rfl, rfl, rfl, rfl, rfl⟩ rfl
  | advanced =>
    refine blockInv_congr hs hcfg (advance_sameDecoder _ s) ?_
    rw [advance_frame]; rfl
  | ticked hm => exact tick_blockInv hs hm
  | reset =>
    exact blockInv_congr (resetHasInvariant s.cfg hs.params) rfl ⟨rfl, rfl, rfl, rfl, rfl⟩ rfl

/-- Settles O8: what a step takes from outside touches neither the decoder nor pending, and its instruction
keeps the invariant. -/
theorem stepKeepsInvariant : Obligations.StepKeepsInvariant := by
  intro s t hs h
  obtain ⟨-, ⟨bs, rest, rfl⟩ | ⟨i, rest, hi⟩⟩ := step_cases h
  · exact blockInv_congr hs rfl ⟨rfl, rfl, rfl, rfl, rfl⟩ rfl
  · exact exec_blockInv (blockInv_congr (t := s.setInputs rest) hs rfl ⟨rfl, rfl, rfl, rfl, rfl⟩ rfl) hi

/-! ## The control loop -/

theorem afterIngest_inputs (m : State) : (afterIngest m).inputs = m.inputs := by
  rw [afterIngest_frame, dispatchStep_frame]

/-- Where the simple dialect's modes are kept, a tick answers (44_tick.md R201). -/
theorem tick_answers {s : State} (h : HasMode s.ctx) :
    ∃ m, ingest s.cfg.burstMax s = .ok m ∧ exec .tick s = .next (afterIngest m) := by
  obtain ⟨m, hm⟩ := ingest_total s.cfg.burstMax s h
  exact ⟨m, hm, exec_tick hm⟩

theorem idle_step_answers {s : State} (hs : BlockInv s) (hin : s.inputs = []) :
    ∃ t, step s = .next t ∧ BlockInv t ∧ t.inputs = [] := by
  obtain ⟨m, hm, ht⟩ := tick_answers (s := s) hs.simpleMode
  refine ⟨_, (step_idle hs.params hin).trans ht, tick_blockInv hs hm, ?_⟩
  rw [afterIngest_inputs, (ingest_frame _ s m hm).inputs, hin]

theorem run_succ {M : Host.Core} {s t : M.State} (h : M.step s = .next t) (n : Nat) :
    M.run (n + 1) s = M.run n t := by simp [Host.Core.run, h]

/-- Settles O10: by induction on the number of steps, each one a tick that answers and keeps the
invariant. -/
theorem controlLoopNeverStops : Obligations.ControlLoopNeverStops := by
  intro s n hs hin
  induction n generalizing s with
  | zero => exact ⟨s, rfl, hs, hin⟩
  | succ n ih =>
    obtain ⟨t, ht, hti, htin⟩ := idle_step_answers hs hin
    obtain ⟨u, hu, h⟩ := ih t hti htin
    exact ⟨u, (run_succ (M := core) ht n).trans hu, h⟩

end Sys2Proof.Invariants
end

section
/-! The way of a level to its target (43_ramp.md R183 to R185): its distance falls by one with every call of
ADVANCE, and with every tick. -/

namespace Sys2Proof.Convergence

open Sys2Proof Sys2Proof.Machine Sys2Proof.Safety Sys2Proof.Ramp

/-! ## One call -/

theorem levelAfter_toNat (c t : Level) : (levelAfter c t).toNat =
    if c.toNat < t.toNat then c.toNat + 1 else if t.toNat < c.toNat then c.toNat - 1 else c.toNat := by
  by_cases h : c = t
  · simp [levelAfter, h]
  · have hne : c.toNat ≠ t.toNat := fun e => h (BitVec.eq_of_toNat_eq e)
    rw [levelAfter, if_neg h, stepToward_toNat c t h]
    split
    · rfl
    · rw [if_pos (by omega)]

theorem distance_eq_zero_iff (s : State) (a : Actuator) : distance s a = 0 ↔ s.current a = s.target a := by
  rw [← BitVec.toNat_inj, distance]
  omega

/-- The distance depends on the two levels alone. -/
theorem distance_congr {s t : State} {a : Actuator} (hc : t.current a = s.current a)
    (ht : t.target a = s.target a) : distance t a = distance s a := by
  rw [distance, distance, hc, ht]

theorem distance_advance_same (a : Actuator) (s : State) :
    distance (advance a s).1 a = distance s a - 1 := by
  unfold distance
  rw [advance_target, advance_current_same, levelAfter_toNat]
  split
  · omega
  · split <;> omega

theorem distance_advance_of_ne {a b : Actuator} (h : b ≠ a) (s : State) :
    distance (advance a s).1 b = distance s b :=
  distance_congr (advance_current_of_ne h s) (congrFun (advance_target a s) b)

theorem writesOf_length (a : Actuator) (s : State) :
    (writesOf a (s.current a) (s.target a)).length = min 1 (distance s a) := by
  have h := distance_eq_zero_iff s a
  by_cases he : s.current a = s.target a
  · simp [writesOf, he, h.mpr he]
  · have : distance s a ≠ 0 := fun e => he (h.mp e)
    rw [writesOf, if_neg he, List.length_singleton]
    omega

theorem advance_stepping_iff (a : Actuator) (s : State) :
    (advance a s).2 = .stepping ↔ 0 < distance s a := by
  rw [advance_status, statusOf, Nat.pos_iff_ne_zero, ne_eq, distance_eq_zero_iff]
  split <;> simp_all

/-! ## Many calls -/

theorem rampFor_succ (a : Actuator) (k : Nat) (s : State) :
    rampFor a (k + 1) s = rampFor a k (advance a s).1 := rfl

theorem rampFor_target (a : Actuator) (k : Nat) (s : State) : (rampFor a k s).target = s.target := by
  induction k generalizing s with
  | zero => rfl
  | succ k ih => rw [rampFor_succ, ih, advance_target]

theorem distance_rampFor (a : Actuator) (k : Nat) (s : State) :
    distance (rampFor a k s) a = distance s a - k := by
  induction k generalizing s with
  | zero => rfl
  | succ k ih => rw [rampFor_succ, ih, distance_advance_same]; omega

theorem rampFor_acts_length (a : Actuator) (k : Nat) (s : State) :
    (rampFor a k s).acts.length = s.acts.length + min k (distance s a) := by
  induction k generalizing s with
  | zero => simp [rampFor]
  | succ k ih =>
    rw [rampFor_succ, ih, distance_advance_same, advance_acts, List.length_append, writesOf_length]
    omega

/-- A call does not carry the level past its target (43_ramp.md R184). -/
theorem rampFor_side (a : Actuator) (k : Nat) (s : State) :
    ((s.current a).toNat ≤ (s.target a).toNat →
      ((rampFor a k s).current a).toNat ≤ (s.target a).toNat) ∧
    ((s.target a).toNat ≤ (s.current a).toNat →
      (s.target a).toNat ≤ ((rampFor a k s).current a).toNat) := by
  induction k generalizing s with
  | zero => exact ⟨id, id⟩
  | succ k ih =>
    have hstep := levelAfter_toNat (s.current a) (s.target a)
    rw [← advance_current_same] at hstep
    obtain ⟨hle, hge⟩ := ih (advance a s).1
    rw [advance_target] at hle hge
    rw [rampFor_succ]
    constructor
    · intro h; exact hle (by split at hstep <;> [omega; split at hstep <;> omega])
    · intro h; exact hge (by split at hstep <;> [omega; split at hstep <;> omega])

/-- Settles O50: the side on which the level stays and the distance that is left determine it. -/
theorem rampConvergesMonotonically : Obligations.RampConvergesMonotonically := by
  intro s a k d t
  have htarget : t.target a = s.target a := congrFun (rampFor_target a k s) a
  have hdist : distance t a = d - k := distance_rampFor a k s
  have hside : ((s.current a).toNat ≤ (s.target a).toNat → (t.current a).toNat ≤ (s.target a).toNat) ∧
      ((s.target a).toNat ≤ (s.current a).toNat → (s.target a).toNat ≤ (t.current a).toNat) :=
    rampFor_side a k s
  obtain ⟨hle, hge⟩ := hside
  have hd : d = (s.target a).toNat - (s.current a).toNat + ((s.current a).toNat - (s.target a).toNat) := rfl
  have hleft := hdist
  rw [distance, htarget] at hleft
  refine ⟨htarget, fun h => ?up, fun h => ?down, ?reached, ?status, rampFor_acts_length a k s⟩
  case up =>
    rw [BitVec.le_def] at h
    have := hle h
    omega
  case down =>
    rw [BitVec.le_def] at h
    have := hge h
    omega
  case reached => rw [← distance_eq_zero_iff, hdist]; omega
  case status => rw [advance_stepping_iff, hdist]; omega

end Sys2Proof.Convergence
end

section
/-! TICK (44_tick.md): what its reads do, its second and third step from the state they leave, and what that
means for a held command, for the ramps and for a checksummed block. -/

namespace Sys2Proof.Ticks

open Sys2Proof Sys2Proof.Machine Sys2Proof.Safety Sys2Proof.SimpleDecoder Sys2Proof.Words Sys2Proof.Runs
  Sys2Proof.Frames Sys2Proof.Dispatching Sys2Proof.Effects Sys2Proof.Invariants Sys2Proof.Ramp
  Sys2Proof.Convergence

/-! ## The reads (44_tick.md R192) -/

/-- With an empty source nothing is read. -/
theorem ingest_empty {n : Nat} {s : State} (h : s.rx = []) : ingest n s = .ok s := by
  cases n with
  | zero => rfl
  | succ n => cases hp : s.pending <;> simp [ingest, h, hp]

/-- One read whose byte gives no result. -/
theorem ingest_none {n : Nat} {b : Byte} {rest : List Byte} {s t : State} (hp : s.pending = none)
    (hrx : s.rx = b :: rest) (hx : feed b s = .ok (t, none)) :
    ingest (n + 1) s = ingest n (t.setRx rest) := by
  simp [ingest, hp, hrx, feed_setRx hx, fillPending]

/-- One read whose byte gives a result, which ends the loop. -/
theorem ingest_some {n : Nat} {b : Byte} {rest : List Byte} {s t : State} {r : FrameResult}
    (hp : s.pending = none) (hrx : s.rx = b :: rest) (hx : feed b s = .ok (t, some r)) :
    ingest (n + 1) s = .ok ((t.setRx rest).setPending (some r)) := by
  simp [ingest, hp, hrx, feed_setRx hx, fillPending, ingest_pending]

/-- What the reads of a tick have done: a run of FEED over the first n bytes of the source, of which only the
last may give a result. -/
structure Reads (limit : Nat) (s m : State) (n : Nat) (rs : List (Option FrameResult)) (u : State) :
    Prop where
  le_limit : n ≤ limit
  le_source : n ≤ s.rx.length
  idle : s.pending ≠ none → n = 0
  run : Feeds (s.rx.take n) s rs u
  quiet : ∀ r ∈ rs.dropLast, r = none
  ended : s.pending = none → n = limit ∨ n = s.rx.length ∨ ∃ r, rs.getLast? = some (some r)
  left : m = { u with rx := s.rx.drop n, pending := s.pending.or rs.getLast?.join }

/-- No read at all. -/
theorem reads_nothing {limit : Nat} {s : State}
    (h : s.pending = none → limit = 0 ∨ s.rx = []) : Reads limit s s 0 [] s where
  le_limit := Nat.zero_le _
  le_source := Nat.zero_le _
  idle _ := rfl
  run := Feeds.nil s
  quiet := by simp
  ended hp := (h hp).imp Eq.symm fun hrx => .inl (by simp [hrx])
  left := by simp

/-- A read with a result, the only one. -/
theorem reads_some {limit : Nat} {b : Byte} {rest : List Byte} {s t : State} {r : FrameResult}
    (hp : s.pending = none) (hrx : s.rx = b :: rest) (hx : feed b s = .ok (t, some r)) :
    Reads (limit + 1) s ((t.setRx rest).setPending (some r)) 1 [some r] t where
  le_limit := Nat.succ_le_succ (Nat.zero_le _)
  le_source := by simp [hrx]
  idle h := absurd hp h
  run := by rw [hrx]; exact Feeds.single (x := (t, some r)) hx
  quiet := by simp
  ended _ := .inr (.inr ⟨r, rfl⟩)
  left := by simp [hp, hrx, State.setRx, State.setPending]

/-- A read without a result, and the reads after it. -/
theorem reads_none {limit n : Nat} {b : Byte} {rest : List Byte} {s t m u : State}
    {rs : List (Option FrameResult)} (hp : s.pending = none) (hrx : s.rx = b :: rest)
    (hx : feed b s = .ok (t, none)) (h : Reads limit (t.setRx rest) m n rs u) :
    Reads (limit + 1) s m (n + 1) (none :: rs) (u.setRx s.rx) := by
  obtain ⟨hlim, hsrc, -, hrun, hq, hend, hleft⟩ := h
  have hpt : (t.setRx rest).pending = none := (feed_frame hx).pending.trans hp
  have htrx : (t.setRx rest).setRx s.rx = t := congrArg (t.setRx ·) (feed_frame hx).rx.symm
  rw [setRx_rx] at hsrc hrun hend hleft
  constructor
  · omega
  · rw [hrx]; simpa using hsrc
  · exact fun h => absurd hp h
  · have := Feeds.setRx hrun s.rx
    rw [htrx] at this
    rw [hrx, List.take_succ_cons, ← hrx]
    exact Feeds.cons (x := (t, none)) hx this
  · cases rs with
    | nil => simp
    | cons r rs => simpa using hq
  · intro _
    rcases hend hpt with h | h | ⟨r, h⟩
    · exact .inl (by omega)
    · exact .inr (.inl (by simp [hrx, h]))
    · exact .inr (.inr ⟨r, by simp [List.getLast?_cons, h]⟩)
  · have hlast : (none :: rs).getLast?.join = rs.getLast?.join := by
      cases rs with
      | nil => rfl
      | cons r rs => simp [List.getLast?_cons]
    rw [hleft, hlast, hp, hpt, hrx, List.drop_succ_cons]
    rfl

/-- The reads of a tick that answers. -/
theorem ingest_reads {limit : Nat} {s m : State} (h : ingest limit s = .ok m) :
    ∃ n rs u, Reads limit s m n rs u := by
  induction limit generalizing s with
  | zero => cases h; exact ⟨0, [], _, reads_nothing fun _ => .inl rfl⟩
  | succ limit ih =>
    cases hp : s.pending with
    | some r =>
      rw [ingest_pending hp] at h
      cases h
      exact ⟨0, [], _, reads_nothing fun hn => by rw [hp] at hn; cases hn⟩
    | none =>
      cases hrx : s.rx with
      | nil =>
        rw [ingest_empty hrx] at h
        cases h
        exact ⟨0, [], _, reads_nothing fun _ => .inr hrx⟩
      | cons b rest =>
        cases hx : feed b s with
        | error e =>
          have he := feed_ignores_ports b s rest s.returns
          rw [hx] at he
          have he' : feed b (s.setRx rest) = .error e := he
          simp [ingest, hp, hrx, he'] at h
        | ok x =>
          obtain ⟨t, _ | r⟩ := x
          · rw [ingest_none hp hrx hx] at h
            obtain ⟨n, rs, u, hr⟩ := ih h
            exact ⟨n + 1, none :: rs, _, reads_none hp hrx hx hr⟩
          · rw [ingest_some hp hrx hx] at h
            cases h
            exact ⟨1, [some r], t, reads_some hp hrx hx⟩

/-- Bytes that give one result, at their end, are read as a whole and no further. -/
theorem ingest_of_feeds {bs : List Byte} {rs : List (Option FrameResult)} {s u : State} {r : FrameResult}
    {k limit : Nat} (h : Feeds bs s rs u) (hrs : rs = List.replicate k none ++ [some r])
    (hp : s.pending = none) (rest : List Byte) (hl : bs.length ≤ limit) :
    ingest limit (s.setRx (bs ++ rest)) = .ok ((u.setRx rest).setPending (some r)) := by
  induction h generalizing k limit with
  | nil => simp at hrs
  | @cons b bs s u x rs hx h ih =>
    obtain ⟨t, res⟩ := x
    rw [List.length_cons] at hl
    obtain ⟨n, rfl⟩ : ∃ n, limit = n + 1 := ⟨limit - 1, by omega⟩
    have hx' := feed_setRx hx (b :: bs ++ rest)
    cases k with
    | zero =>
      obtain ⟨rfl, rfl⟩ : res = some r ∧ rs = [] := by simpa using hrs
      obtain rfl : bs = [] := by simpa using h.length.symm
      cases h
      exact ingest_some (s := s.setRx ([b] ++ rest)) (t := t.setRx ([b] ++ rest)) hp rfl hx'
    | succ k =>
      obtain ⟨rfl, hrs'⟩ : res = none ∧ rs = List.replicate k none ++ [some r] := by
        simpa [List.replicate_succ] using hrs
      exact (ingest_none (s := s.setRx (b :: bs ++ rest)) (t := t.setRx (b :: bs ++ rest)) hp rfl hx').trans
        (ih hrs' ((feed_frame hx).pending.trans hp) (Nat.le_of_succ_le_succ hl))

/-! ## From the state the reads leave -/

/-- Steps 2 and 3 of a tick whose dispatch step is known. -/
theorem tick_of_dispatchStep {s m u : State} {e : TickEvent} (hm : ingest s.cfg.burstMax s = .ok m)
    (hd : dispatchStep m = (u, e)) :
    exec .tick s = .next { (advance .pump (advance .fan u).1).1 with
      results := s.results ++ [e]
      ramps := s.ramps ++ [((advance .fan u).2, (advance .pump (advance .fan u).1).2)] } := by
  have f := ingest_frame _ s m hm
  have hu : (dispatchStep m).1.results = m.results ∧ (dispatchStep m).1.ramps = m.ramps := by
    rw [dispatchStep_frame]
    exact ⟨rfl, rfl⟩
  rw [hd] at hu
  rw [exec_tick hm, afterIngest_eq, hd, State.logRamps, State.logEvent, ← f.results, ← f.ramps, ← hu.1,
    ← hu.2, advance_frame .pump, advance_frame .fan]

theorem dispatchStep_none {m : State} (h : m.pending = none) : dispatchStep m = (m, .noEvent) := by
  simp [dispatchStep, h]

theorem dispatchStep_held {m : State} {sel : Selector} {args : List Byte}
    (h : m.pending = some (.command sel args)) (hset : isSetCommand sel = true)
    (hm : m.settled = false) : dispatchStep m = (m, .held) := by
  simp [dispatchStep, h, hset, hm]

theorem dispatchStep_dispatched {m : State} {sel : Selector} {args : List Byte}
    (h : m.pending = some (.command sel args)) (hr : isSetCommand sel = false ∨ m.settled = true) :
    dispatchStep m = ((dispatch sel args m).1.setPending none,
      .dispatched sel args (dispatch sel args m).2) := by
  rcases hr with hr | hr <;> simp [dispatchStep, h, hr]

theorem dispatchStep_reported {m : State} {r : FrameResult} (h : m.pending = some r)
    (hr : ∀ sel args, r ≠ .command sel args) : dispatchStep m = (m.setPending none, .reported r) := by
  cases r with
  | command sel args => exact absurd rfl (hr sel args)
  | unknown bytes => simp [dispatchStep, h]
  | frame fr => simp [dispatchStep, h]
  | frameTooLong => simp [dispatchStep, h]
  | checksumError => simp [dispatchStep, h]

theorem settled_iff (s : State) :
    s.settled = true ↔ s.currentFan = s.targetFan ∧ s.currentPump = s.targetPump := by
  simp [State.settled, State.atTarget, State.current, State.target]

/-- The reads move no level and no target. -/
theorem ingest_settled {n : Nat} {s m : State} (h : ingest n s = .ok m) : m.settled = s.settled := by
  have f := ingest_frame n s m h
  rw [Bool.eq_iff_iff, settled_iff, settled_iff, f.currentFan, f.currentPump, f.targetFan, f.targetPump]

theorem isSetCommand_iff (sel : Selector) : isSetCommand sel = true ↔ sel = .f ∨ sel = .p := by
  cases sel <;> simp [isSetCommand]

/-- Settles O51: the reads are a run of FEED, and the two later steps leave the decoder and the source. -/
theorem tickRunsAndReadsBoundedBurst : Obligations.TickRunsAndReadsBoundedBurst := by
  intro s hmode
  obtain ⟨m, hm, ht⟩ := tick_answers (s := s) hmode
  obtain ⟨n, rs, u, hlim, hsrc, hidle, hrun, hquiet, hend, hleft⟩ := ingest_reads hm
  have f := ingest_frame _ s m hm
  have hret := hrun.frame.returns
  have hlen : rs.length = n := by rw [hrun.length, List.length_take, Nat.min_eq_left hsrc]
  refine ⟨n, rs, _, m, afterIngest m, hlim, hsrc, hidle, hrun.feedAll, hlen, rfl, hquiet, hend, ?_, hm, ht,
    afterIngest_sameDecoder m, ?_, ?_, ?_, (dispatchStep m).2, (advance .fan (dispatchStep m).1).2,
    (advance .pump (advance .fan (dispatchStep m).1).1).2, ?_, ?_⟩
  · rw [hleft, ← hret]
  · rw [afterIngest_frame, dispatchStep_frame]
  · rw [afterIngest_frame, dispatchStep_frame]; exact f.returns
  · rw [afterIngest_inputs, f.inputs]
  · rw [afterIngest_frame]; exact congrArg (· ++ _) f.results
  · rw [afterIngest_frame]; exact congrArg (· ++ _) f.ramps

/-- Settles O52. -/
theorem idleTickOnlyAdvances : Obligations.IdleTickOnlyAdvances := by
  intro s m hm
  refine ⟨fun hp => tick_of_dispatchStep hm (dispatchStep_none hp), fun hrx => ?_⟩
  rw [ingest_empty hrx] at hm
  exact (Except.ok.inj hm).symm

/-- Settles O53. -/
theorem setCommandIsHeldWhileRamping : Obligations.SetCommandIsHeldWhileRamping := by
  intro s m sel args hm hp hset hramp
  have hsettled : m.settled = false := by
    rw [ingest_settled hm, Bool.eq_false_iff, ne_eq, settled_iff]
    tauto
  refine ⟨tick_of_dispatchStep hm (dispatchStep_held hp ((isSetCommand_iff sel).mpr hset) hsettled),
    fun hpend => ?_⟩
  obtain ⟨r, hr⟩ := Option.ne_none_iff_exists'.mp hpend
  rw [ingest_pending hr] at hm
  exact (Except.ok.inj hm).symm

/-- Settles O54. -/
theorem pendingCommandIsDispatched : Obligations.PendingCommandIsDispatched := by
  intro s m sel args hm hp hrun
  refine ⟨_, rfl, tick_of_dispatchStep hm (dispatchStep_dispatched hp ?_)⟩
  rcases hrun with rfl | hs
  · exact .inl rfl
  · exact .inr (by rw [ingest_settled hm, settled_iff]; exact hs)

/-- Settles O55. -/
theorem otherResultsAreReported : Obligations.OtherResultsAreReported :=
  fun _ _ _ hm hp hr => ⟨_, rfl, tick_of_dispatchStep hm (dispatchStep_reported hp hr)⟩

/-! ## Targets and ramps -/

theorem settled_atTarget {s : State} (h : s.settled = true) (a : Actuator) : s.atTarget a = true := by
  rw [State.settled, Bool.and_eq_true] at h
  cases a
  · exact h.1
  · exact h.2

theorem atTarget_congr {s t : State} {a : Actuator} (hc : t.current a = s.current a)
    (ht : t.target a = s.target a) : t.atTarget a = s.atTarget a := by
  rw [State.atTarget, State.atTarget, hc, ht]

theorem atMostOneRamping_iff (s : State) : atMostOneRamping s ↔ ∃ a, s.atTarget a = true :=
  ⟨fun h => h.elim (fun h => ⟨.fan, h⟩) (fun h => ⟨.pump, h⟩), fun ⟨a, h⟩ => by
    cases a
    · exact .inl h
    · exact .inr h⟩

/-- The dispatch step moves a target only where both actuators are at theirs, and then one of them alone
(44_tick.md R194). -/
theorem dispatchStep_target (m : State) : (dispatchStep m).1.target = m.target ∨
    m.settled = true ∧ ∃ b, (dispatchStep m).1.target b = m.target b := by
  rcases dispatchStep_cases m with ⟨-, e⟩ | ⟨_, _, -, -, -, e⟩ | ⟨sel, args, -, hr, e⟩ | ⟨_, -, -, e⟩ <;>
    rw [e]
  · exact .inl rfl
  · exact .inl rfl
  · have keeps : ∀ b, sel.actuator ≠ some b →
        ((dispatch sel args m).1.setPending none).target b = m.target b :=
      fun b hb => (target_setPending _ _ b).trans (dispatch_keeps_target (.inl hb) m)
    rcases hr with hq | hs
    · cases sel <;> simp [isSetCommand] at hq
      exact .inl (funext fun b => keeps b (by simp [Selector.actuator]))
    · right
      refine ⟨hs, ?_⟩
      cases sel
      · exact ⟨.pump, keeps .pump (by decide)⟩
      · exact ⟨.fan, keeps .fan (by decide)⟩
      · exact ⟨.fan, keeps .fan (by decide)⟩
  · exact .inl (funext fun b => target_setPending m none b)

theorem dispatchStep_current (m : State) (a : Actuator) : (dispatchStep m).1.current a = m.current a := by
  rw [dispatchStep_frame]
  cases a <;> rfl

theorem afterIngest_target (m : State) (a : Actuator) :
    (afterIngest m).target a = (dispatchStep m).1.target a := by
  rw [afterIngest_eq, target_logRamps, target_logEvent, advance_target, advance_target]

theorem afterIngest_keeps_atTarget {m : State} {a : Actuator}
    (h : (dispatchStep m).1.atTarget a = true) : (afterIngest m).atTarget a = true := by
  rw [afterIngest_eq]
  refine (atTarget_congr ?_ ?_).trans
    (advance_keeps_atTarget .pump a _ (advance_keeps_atTarget .fan a _ h))
  · rw [current_logRamps, current_logEvent]
  · rw [target_logRamps, target_logEvent]

theorem ingest_current {n : Nat} {s m : State} (h : ingest n s = .ok m) (a : Actuator) :
    m.current a = s.current a := by
  have f := ingest_frame n s m h
  cases a
  · exact f.currentFan
  · exact f.currentPump

theorem ingest_target {n : Nat} {s m : State} (h : ingest n s = .ok m) (a : Actuator) :
    m.target a = s.target a := by
  have f := ingest_frame n s m h
  cases a
  · exact f.targetFan
  · exact f.targetPump

/-- Settles O57: by what the dispatch step may do to the targets; no later step moves an actuator away from
its target. -/
theorem tickNeverPreemptsRamp : Obligations.TickNeverPreemptsRamp := by
  intro s t ht
  obtain ⟨m, hm, rfl⟩ := exec_tick_next ht
  have htarget : ∀ a, (afterIngest m).target a = (dispatchStep m).1.target a := afterIngest_target m
  have hstep := dispatchStep_target m
  rw [ingest_settled hm] at hstep
  have stays : ∀ a, (dispatchStep m).1.target a = m.target a → s.atTarget a = true →
      (afterIngest m).atTarget a = true := fun a ha hs => by
    refine afterIngest_keeps_atTarget ?_
    rw [← hs]
    exact (atTarget_congr (dispatchStep_current m a) ha).trans
      (atTarget_congr (ingest_current hm a) (ingest_target hm a))
  refine ⟨fun hchanged => ?_, fun hone => ?_⟩
  · rcases hstep with hsame | ⟨hs, -⟩
    · have heq : ∀ a, (afterIngest m).target a = s.target a := fun a => by
        rw [htarget, hsame, ingest_target hm]
      exact (hchanged.elim (fun h => h (heq .fan)) (fun h => h (heq .pump))).elim
    · exact (settled_iff s).mp hs
  · rw [atMostOneRamping_iff] at hone ⊢
    rcases hstep with hsame | ⟨hs, b, hb⟩
    · obtain ⟨a, ha⟩ := hone
      exact ⟨a, stays a (congrFun hsame a) ha⟩
    · exact ⟨b, stays b hb (settled_atTarget hs b)⟩

/-! ## A held command -/

theorem distance_afterIngest (m : State) (a : Actuator) :
    distance (afterIngest m) a = distance (dispatchStep m).1 a - 1 := by
  have hlog : distance (afterIngest m) a =
      distance (advance .pump (advance .fan (dispatchStep m).1).1).1 a := by
    rw [afterIngest_eq]
    exact distance_congr (by rw [current_logRamps, current_logEvent])
      (by rw [target_logRamps, target_logEvent])
  rw [hlog]
  cases a
  · rw [distance_advance_of_ne (by decide), distance_advance_same]
  · rw [distance_advance_same, distance_advance_of_ne (by decide)]

theorem settled_iff_ticksToSettle (s : State) : s.settled = true ↔ ticksToSettle s = 0 := by
  have hf := distance_eq_zero_iff s .fan
  have hp := distance_eq_zero_iff s .pump
  rw [State.settled, Bool.and_eq_true, State.atTarget, State.atTarget, beq_iff_eq, beq_iff_eq, ← hf, ← hp,
    ticksToSettle]
  omega

theorem tickFor_succ {k : Nat} {s t u : State} (h : tickFor k s = some t) (ht : exec .tick t = .next u) :
    tickFor (k + 1) s = some u := by
  induction k generalizing s with
  | zero => cases h; simp [tickFor, ht]
  | succ k ih =>
    rw [tickFor] at h ⊢
    cases hs : exec .tick s with
    | next s' => rw [hs] at h; exact ih h
    | fault r => rw [hs] at h; cases h
    | refused r => rw [hs] at h; cases h

/-- The state after k ticks in which a command was held. -/
structure HeldFor (k : Nat) (s t : State) : Prop where
  pending : t.pending = s.pending
  rx : t.rx = s.rx
  tx : t.tx = s.tx
  targetFan : t.targetFan = s.targetFan
  targetPump : t.targetPump = s.targetPump
  results : t.results = s.results ++ List.replicate k .held
  nearer : ticksToSettle t = ticksToSettle s - k

/-- One more tick in which the command is held. -/
theorem HeldFor.tick {k : Nat} {s t : State} {sel : Selector} {args : List Byte} (h : HeldFor k s t)
    (hp : s.pending = some (.command sel args)) (hset : isSetCommand sel = true)
    (hk : k < ticksToSettle s) : ∃ u, exec .tick t = .next u ∧ HeldFor (k + 1) s u := by
  have hpt := h.pending.trans hp
  have hramp : t.settled = false := by
    have hnearer := h.nearer
    rw [Bool.eq_false_iff, ne_eq, settled_iff_ticksToSettle]
    omega
  have hstep := dispatchStep_held hpt hset hramp
  have hframe := afterIngest_frame t
  rw [hstep] at hframe
  refine ⟨_, exec_tick (ingest_pending hpt), ?_⟩
  have hpending : (afterIngest t).pending = t.pending := by rw [hframe]
  have hrx : (afterIngest t).rx = t.rx := by rw [hframe]
  have htx : (afterIngest t).tx = t.tx := by rw [hframe]
  have hfan : (afterIngest t).targetFan = t.targetFan := by rw [hframe]
  have hpump : (afterIngest t).targetPump = t.targetPump := by rw [hframe]
  have hresults : (afterIngest t).results = t.results ++ [.held] := by rw [hframe]
  refine ⟨hpending.trans h.pending, hrx.trans h.rx, htx.trans h.tx, hfan.trans h.targetFan,
    hpump.trans h.targetPump, ?_, ?_⟩
  · rw [hresults, h.results, List.append_assoc, ← List.replicate_succ']
  · have hdist : ∀ a, distance (afterIngest t) a = distance t a - 1 := fun a => by
      rw [distance_afterIngest, hstep]
    have hnearer := h.nearer
    rw [ticksToSettle] at hnearer ⊢
    rw [hdist, hdist]
    omega

/-- A set command is held for as many ticks as the slower actuator needs. -/
theorem held_for {s : State} {sel : Selector} {args : List Byte}
    (hp : s.pending = some (.command sel args)) (hset : isSetCommand sel = true) (k : Nat)
    (hk : k ≤ ticksToSettle s) : ∃ t, tickFor k s = some t ∧ HeldFor k s t := by
  induction k with
  | zero => exact ⟨s, rfl, rfl, rfl, rfl, rfl, rfl, by simp, rfl⟩
  | succ k ih =>
    obtain ⟨t, ht, hheld⟩ := ih (by omega)
    obtain ⟨u, hu, hnext⟩ := hheld.tick hp hset hk
    exact ⟨u, tickFor_succ ht hu, hnext⟩

/-- Settles O58: after the held ticks both actuators are at target, and the next tick dispatches. -/
theorem heldCommandIsReleased : Obligations.HeldCommandIsReleased := by
  intro s sel args hp hsel
  have hset := (isSetCommand_iff sel).mpr hsel
  constructor
  · intro k hk
    obtain ⟨t, ht, h⟩ := held_for hp hset k hk
    refine ⟨t, ht, h.pending, h.rx, h.tx, h.targetFan, h.targetPump, ?_⟩
    rw [settled_iff_ticksToSettle, h.nearer]
    omega
  · obtain ⟨t, ht, h⟩ := held_for hp hset _ le_rfl
    have hpt := h.pending.trans hp
    have hsettled : t.settled = true := by
      rw [settled_iff_ticksToSettle, h.nearer, Nat.sub_self]
    have hstep := dispatchStep_dispatched hpt (.inr hsettled)
    refine ⟨_, (dispatch sel args t).2, tickFor_succ ht (exec_tick (ingest_pending hpt)), ?_, ?_⟩
    · rw [afterIngest_pending, hstep]; rfl
    · rw [afterIngest_frame, ← h.results, hstep]

/-! ## A whole command in one tick -/

/-- Arguments that are a number are digits, so none of them is END. -/
theorem noEnd_of_parseDec {args : List Byte} {v : Nat} (h : parseDec args = some v) :
    ∀ b ∈ args, b ≠ END := by
  obtain ⟨-, hd, -⟩ := DecimalText.parseDec_eq_some_iff.mp h
  rintro b hb rfl
  have := List.all_eq_true.mp hd END hb
  cases this

theorem selector_byte_ne_end (a : Actuator) : a.selector.byte ≠ END := by cases a <;> decide

theorem advance_atTarget {a : Actuator} {s : State} (h : s.atTarget a = true) :
    advance a s = (s, .converged) := advance_of_eq (by simpa [State.atTarget] using h)

/-- ADVANCE neither reads nor writes the result port. -/
theorem advance_setResults (a : Actuator) (s : State) (es : List TickEvent) :
    advance a { s with results := es } =
      ({ (advance a s).1 with results := es }, (advance a s).2) := by
  rcases advance_cases a s with ⟨h, e⟩ | ⟨h, e⟩ <;> rw [e]
  · rw [advance_of_eq (by cases a <;> exact h)]
  · rw [advance_of_ne (by cases a <;> exact h)]
    cases a <;> rfl

theorem advance_both_setResults (s : State) (es : List TickEvent) :
    (advance .fan { s with results := es }).2 = (advance .fan s).2 ∧
    advance .pump (advance .fan { s with results := es }).1 =
      ({ (advance .pump (advance .fan s).1).1 with results := es },
        (advance .pump (advance .fan s).1).2) := by
  have hfan := advance_setResults .fan s es
  have hpump := advance_setResults .pump (advance .fan s).1 es
  exact ⟨by rw [hfan], by rw [hfan]; exact hpump⟩

/-- The state after the dispatch step of a tick that reads START, the selector of a, args and END. -/
def served (a : Actuator) (args rest : List Byte) (v : Nat) (s : State) : State :=
  { s.setTarget a (BitVec.ofNat 8 v) with
    buffer := []
    rx := rest
    tx := s.tx ++ [0x02, a.selector.byte] ++ dec (BitVec.ofNat 8 v) ++ [s.cfg.replyTerm.byte]
    results := s.results ++ [.dispatched a.selector args .ok] }

/-- Such a tick reads the frame and no more, dispatches, and takes its third step from there. -/
theorem tick_serves {s : State} {a : Actuator} {args rest : List Byte} {v : Nat}
    (hd : s.cfg.dialect = .simple) (hm : s.mode = .seekingStart) (hp : s.pending = none)
    (hsettled : s.settled = true) (hburst : args.length + 3 ≤ s.cfg.burstMax)
    (hmax : args.length + 1 ≤ s.cfg.maxFrameLen) (hv : parseDec args = some v) (hle : v ≤ 255)
    (hrx : s.rx = [0x02, a.selector.byte] ++ args ++ [0x03] ++ rest) :
    exec .tick s = .next { (advance .pump (advance .fan (served a args rest v s)).1).1 with
      ramps := s.ramps ++ [((advance .fan (served a args rest v s)).2,
        (advance .pump (advance .fan (served a args rest v s)).1).2)] } := by
  have hbody : ∀ b ∈ a.selector.byte :: args, b ≠ END :=
    List.forall_mem_cons.mpr ⟨selector_byte_ne_end a, noEnd_of_parseDec hv⟩
  have hfeeds := feeds_frame_simple hd hm hbody hmax
  rw [classify_selector] at hfeeds
  have hread := ingest_of_feeds (limit := s.cfg.burstMax) hfeeds rfl hp rest (by simp; omega)
  have hsrc : s.setRx ([START] ++ (a.selector.byte :: args) ++ [END] ++ rest) = s := by
    rw [show [START] ++ (a.selector.byte :: args) ++ [END] ++ rest = s.rx by rw [hrx]; rfl]
    rfl
  rw [hsrc] at hread
  have hstep := dispatchStep_dispatched (m := (({ s with buffer := [] } : State).setRx rest).setPending _)
    rfl (.inr ((ingest_settled hread).trans hsettled))
  rw [dispatch_selector, dispatchSet_of_le hv hle] at hstep
  have hserved : served a args rest v s = { (acceptSet a (BitVec.ofNat 8 v)
      ((({ s with buffer := [] } : State).setRx rest).setPending
        (some (.command a.selector args)))).1.setPending none with
      results := s.results ++ [.dispatched a.selector args .ok] } := by
    cases a <;> simp [served, acceptSet, acceptedReply, State.setTarget, State.setPending, State.setRx,
      State.txWrite, START, hp]
  rw [tick_of_dispatchStep hread hstep, hserved]
  generalize (acceptSet a _ _).1.setPending none = u
  obtain ⟨hfan, hpump⟩ := advance_both_setResults u (s.results ++ [.dispatched a.selector args .ok])
  rw [hfan, hpump]
  rfl

/-- Settles O56: the actuator that the command does not name stays at its target. -/
theorem tickServesWaitingSetCommand : Obligations.TickServesWaitingSetCommand := by
  intro s args rest v hd hm hp hfan hpump hburst hmax hv hle
  have hsettled := (settled_iff s).mpr ⟨hfan, hpump⟩
  constructor <;> intro hrx
  · have htick := tick_serves (a := .fan) hd hm hp hsettled hburst hmax hv hle hrx
    have hother : (advance .fan (served .fan args rest v s)).1.atTarget .pump = true :=
      advance_keeps_atTarget .fan .pump _ (settled_atTarget hsettled .pump)
    rw [advance_atTarget hother] at htick
    exact ⟨_, _, rfl, htick, rfl⟩
  · have htick := tick_serves (a := .pump) hd hm hp hsettled hburst hmax hv hle hrx
    have hother : (served .pump args rest v s).atTarget .fan = true := settled_atTarget hsettled .fan
    rw [advance_atTarget hother] at htick
    exact ⟨_, _, rfl, htick, rfl⟩

/-! ## A checksummed block -/

/-- Settles O59: no command reaches pending, so nothing is dispatched, and both actuators stay. -/
theorem checksummedTickDrivesNothing : Obligations.ChecksummedTickDrivesNothing := by
  intro s t hs hd hsettled ht
  obtain ⟨m, hm, rfl⟩ := exec_tick_next ht
  have f := ingest_frame _ s m hm
  have hfits := ingest_pendingFits (pendingFits_of_held hs.held) hm
  have hno : ∀ sel args, m.pending ≠ some (.command sel args) := fun sel args hp => by
    have := hfits sel args hp
    rw [f.cfg, hd] at this
    cases this
  have hat : ∀ a, m.atTarget a = true := settled_atTarget ((ingest_settled hm).trans hsettled)
  obtain ⟨e, hstep⟩ : ∃ e, dispatchStep m = (m.setPending none, e) := by
    rcases dispatchStep_cases m with ⟨hp, e⟩ | ⟨_, _, hp, -, -, -⟩ | ⟨_, _, hp, -, -⟩ | ⟨_, -, -, e⟩
    · exact ⟨_, e.trans (by rw [State.setPending, ← hp])⟩
    · exact absurd hp (hno _ _)
    · exact absurd hp (hno _ _)
    · exact ⟨_, e⟩
  have hfan : advance .fan (m.setPending none) = (m.setPending none, .converged) :=
    advance_atTarget (hat .fan)
  have hpump : advance .pump (m.setPending none) = (m.setPending none, .converged) :=
    advance_atTarget (hat .pump)
  have hend : afterIngest m = ((m.setPending none).logEvent e).logRamps .converged .converged := by
    rw [afterIngest_eq, hstep, hfan, hpump]
  rw [hend]
  exact ⟨rfl, f.tx, f.acts, f.currentFan, f.currentPump, f.targetFan, f.targetPump,
    congrArg (· ++ _) f.ramps⟩

end Sys2Proof.Ticks
end
